-- ==== Sys2Proof/Word.lean ====
section
/-! DEFINITION. The two word types of the machine: the 8-bit byte and the 16-bit word (spec/00_scope.md R9, R10). -/

namespace Sys2Proof

/-- A byte: the width of A, X, Y, S, P and a memory cell (R9). -/
abbrev Byte := BitVec 8

/-- A 16-bit word: the width of PC and of an address (R9). -/
abbrev Word := BitVec 16

end Sys2Proof
end

