-- ==== Sys2Proof/Syntax.lean ====
section
/-! DEFINITION. The instruction set as syntax: the 56 mnemonics, the 13 addressing modes, and `Instr`, one constructor for
each of the 151 rows of spec/opcode_table.json (spec/30_encoding.md R100, R103, R108). -/

namespace Sys2Proof

/-- The 56 mnemonics of R103. -/
inductive Op where
  | adc | sbc | inc | dec | inx | iny | dex | dey
  | and | ora | eor | bit
  | asl | lsr | rol | ror
  | lda | ldx | ldy | sta | stx | sty | tax | tay | txa | tya | tsx | txs
  | cmp | cpx | cpy
  | bpl | bmi | bvc | bvs | bcc | bcs | bne | beq
  | pha | php | pla | plp
  | jmp | jsr | rts
  | clc | sec | cli | sei | cld | sed | clv | nop | brk | rti
  deriving DecidableEq, Repr

/-- The thirteen addressing modes of R108. -/
inductive Mode where
  | imp | acc | imm | zp | zpX | zpY | abs | absX | absY | ind | indX | indY | rel
  deriving DecidableEq, Repr

/-- The ten modes whose result is an effective address (kind `mem(EA)` of R109), each with its operand bytes:
`ind` is JMP's pointer (R119), `rel` a branch's displacement (R122). -/
inductive AddrMode where
  | zp (z : Byte)
  | zpX (z : Byte)
  | zpY (z : Byte)
  | abs (a : Word)
  | absX (a : Word)
  | absY (a : Word)
  | ind (ptr : Word)
  | indX (z : Byte)
  | indY (z : Byte)
  | rel (r : Byte)
  deriving DecidableEq, Repr

/-- Where `Operand()` reads and `StoreOperand(v)` writes: register A, or memory at an effective address (R109, R124). -/
inductive Loc where
  | acc
  | mem (m : AddrMode)
  deriving DecidableEq, Repr

/-- The operand of an instruction that has one: a literal byte (R112), or a location. An implied instruction has none (R110). -/
inductive Operand where
  | imm (v : Byte)
  | loc (l : Loc)
  deriving DecidableEq, Repr

/-- The instructions: one constructor for each row of the opcode table, named by its mnemonic and its mode. -/
inductive Instr where
  /-- 0x61, `ADC ($nn,X)`. -/
  | adcIndX (z : Byte)
  /-- 0x65, `ADC $nn`. -/
  | adcZp (z : Byte)
  /-- 0x69, `ADC #$nn`. -/
  | adcImm (v : Byte)
  /-- 0x6D, `ADC $hhll`. -/
  | adcAbs (a : Word)
  /-- 0x71, `ADC ($nn),Y`. -/
  | adcIndY (z : Byte)
  /-- 0x75, `ADC $nn,X`. -/
  | adcZpX (z : Byte)
  /-- 0x79, `ADC $hhll,Y`. -/
  | adcAbsY (a : Word)
  /-- 0x7D, `ADC $hhll,X`. -/
  | adcAbsX (a : Word)
  /-- 0xE1, `SBC ($nn,X)`. -/
  | sbcIndX (z : Byte)
  /-- 0xE5, `SBC $nn`. -/
  | sbcZp (z : Byte)
  /-- 0xE9, `SBC #$nn`. -/
  | sbcImm (v : Byte)
  /-- 0xED, `SBC $hhll`. -/
  | sbcAbs (a : Word)
  /-- 0xF1, `SBC ($nn),Y`. -/
  | sbcIndY (z : Byte)
  /-- 0xF5, `SBC $nn,X`. -/
  | sbcZpX (z : Byte)
  /-- 0xF9, `SBC $hhll,Y`. -/
  | sbcAbsY (a : Word)
  /-- 0xFD, `SBC $hhll,X`. -/
  | sbcAbsX (a : Word)
  /-- 0xE6, `INC $nn`. -/
  | incZp (z : Byte)
  /-- 0xEE, `INC $hhll`. -/
  | incAbs (a : Word)
  /-- 0xF6, `INC $nn,X`. -/
  | incZpX (z : Byte)
  /-- 0xFE, `INC $hhll,X`. -/
  | incAbsX (a : Word)
  /-- 0xC6, `DEC $nn`. -/
  | decZp (z : Byte)
  /-- 0xCE, `DEC $hhll`. -/
  | decAbs (a : Word)
  /-- 0xD6, `DEC $nn,X`. -/
  | decZpX (z : Byte)
  /-- 0xDE, `DEC $hhll,X`. -/
  | decAbsX (a : Word)
  /-- 0xE8, `INX`. -/
  | inx
  /-- 0xC8, `INY`. -/
  | iny
  /-- 0xCA, `DEX`. -/
  | dex
  /-- 0x88, `DEY`. -/
  | dey
  /-- 0x21, `AND ($nn,X)`. -/
  | andIndX (z : Byte)
  /-- 0x25, `AND $nn`. -/
  | andZp (z : Byte)
  /-- 0x29, `AND #$nn`. -/
  | andImm (v : Byte)
  /-- 0x2D, `AND $hhll`. -/
  | andAbs (a : Word)
  /-- 0x31, `AND ($nn),Y`. -/
  | andIndY (z : Byte)
  /-- 0x35, `AND $nn,X`. -/
  | andZpX (z : Byte)
  /-- 0x39, `AND $hhll,Y`. -/
  | andAbsY (a : Word)
  /-- 0x3D, `AND $hhll,X`. -/
  | andAbsX (a : Word)
  /-- 0x01, `ORA ($nn,X)`. -/
  | oraIndX (z : Byte)
  /-- 0x05, `ORA $nn`. -/
  | oraZp (z : Byte)
  /-- 0x09, `ORA #$nn`. -/
  | oraImm (v : Byte)
  /-- 0x0D, `ORA $hhll`. -/
  | oraAbs (a : Word)
  /-- 0x11, `ORA ($nn),Y`. -/
  | oraIndY (z : Byte)
  /-- 0x15, `ORA $nn,X`. -/
  | oraZpX (z : Byte)
  /-- 0x19, `ORA $hhll,Y`. -/
  | oraAbsY (a : Word)
  /-- 0x1D, `ORA $hhll,X`. -/
  | oraAbsX (a : Word)
  /-- 0x41, `EOR ($nn,X)`. -/
  | eorIndX (z : Byte)
  /-- 0x45, `EOR $nn`. -/
  | eorZp (z : Byte)
  /-- 0x49, `EOR #$nn`. -/
  | eorImm (v : Byte)
  /-- 0x4D, `EOR $hhll`. -/
  | eorAbs (a : Word)
  /-- 0x51, `EOR ($nn),Y`. -/
  | eorIndY (z : Byte)
  /-- 0x55, `EOR $nn,X`. -/
  | eorZpX (z : Byte)
  /-- 0x59, `EOR $hhll,Y`. -/
  | eorAbsY (a : Word)
  /-- 0x5D, `EOR $hhll,X`. -/
  | eorAbsX (a : Word)
  /-- 0x24, `BIT $nn`. -/
  | bitZp (z : Byte)
  /-- 0x2C, `BIT $hhll`. -/
  | bitAbs (a : Word)
  /-- 0x06, `ASL $nn`. -/
  | aslZp (z : Byte)
  /-- 0x0A, `ASL A`. -/
  | aslA
  /-- 0x0E, `ASL $hhll`. -/
  | aslAbs (a : Word)
  /-- 0x16, `ASL $nn,X`. -/
  | aslZpX (z : Byte)
  /-- 0x1E, `ASL $hhll,X`. -/
  | aslAbsX (a : Word)
  /-- 0x46, `LSR $nn`. -/
  | lsrZp (z : Byte)
  /-- 0x4A, `LSR A`. -/
  | lsrA
  /-- 0x4E, `LSR $hhll`. -/
  | lsrAbs (a : Word)
  /-- 0x56, `LSR $nn,X`. -/
  | lsrZpX (z : Byte)
  /-- 0x5E, `LSR $hhll,X`. -/
  | lsrAbsX (a : Word)
  /-- 0x26, `ROL $nn`. -/
  | rolZp (z : Byte)
  /-- 0x2A, `ROL A`. -/
  | rolA
  /-- 0x2E, `ROL $hhll`. -/
  | rolAbs (a : Word)
  /-- 0x36, `ROL $nn,X`. -/
  | rolZpX (z : Byte)
  /-- 0x3E, `ROL $hhll,X`. -/
  | rolAbsX (a : Word)
  /-- 0x66, `ROR $nn`. -/
  | rorZp (z : Byte)
  /-- 0x6A, `ROR A`. -/
  | rorA
  /-- 0x6E, `ROR $hhll`. -/
  | rorAbs (a : Word)
  /-- 0x76, `ROR $nn,X`. -/
  | rorZpX (z : Byte)
  /-- 0x7E, `ROR $hhll,X`. -/
  | rorAbsX (a : Word)
  /-- 0xA1, `LDA ($nn,X)`. -/
  | ldaIndX (z : Byte)
  /-- 0xA5, `LDA $nn`. -/
  | ldaZp (z : Byte)
  /-- 0xA9, `LDA #$nn`. -/
  | ldaImm (v : Byte)
  /-- 0xAD, `LDA $hhll`. -/
  | ldaAbs (a : Word)
  /-- 0xB1, `LDA ($nn),Y`. -/
  | ldaIndY (z : Byte)
  /-- 0xB5, `LDA $nn,X`. -/
  | ldaZpX (z : Byte)
  /-- 0xB9, `LDA $hhll,Y`. -/
  | ldaAbsY (a : Word)
  /-- 0xBD, `LDA $hhll,X`. -/
  | ldaAbsX (a : Word)
  /-- 0xA2, `LDX #$nn`. -/
  | ldxImm (v : Byte)
  /-- 0xA6, `LDX $nn`. -/
  | ldxZp (z : Byte)
  /-- 0xAE, `LDX $hhll`. -/
  | ldxAbs (a : Word)
  /-- 0xB6, `LDX $nn,Y`. -/
  | ldxZpY (z : Byte)
  /-- 0xBE, `LDX $hhll,Y`. -/
  | ldxAbsY (a : Word)
  /-- 0xA0, `LDY #$nn`. -/
  | ldyImm (v : Byte)
  /-- 0xA4, `LDY $nn`. -/
  | ldyZp (z : Byte)
  /-- 0xAC, `LDY $hhll`. -/
  | ldyAbs (a : Word)
  /-- 0xB4, `LDY $nn,X`. -/
  | ldyZpX (z : Byte)
  /-- 0xBC, `LDY $hhll,X`. -/
  | ldyAbsX (a : Word)
  /-- 0x81, `STA ($nn,X)`. -/
  | staIndX (z : Byte)
  /-- 0x85, `STA $nn`. -/
  | staZp (z : Byte)
  /-- 0x8D, `STA $hhll`. -/
  | staAbs (a : Word)
  /-- 0x91, `STA ($nn),Y`. -/
  | staIndY (z : Byte)
  /-- 0x95, `STA $nn,X`. -/
  | staZpX (z : Byte)
  /-- 0x99, `STA $hhll,Y`. -/
  | staAbsY (a : Word)
  /-- 0x9D, `STA $hhll,X`. -/
  | staAbsX (a : Word)
  /-- 0x86, `STX $nn`. -/
  | stxZp (z : Byte)
  /-- 0x8E, `STX $hhll`. -/
  | stxAbs (a : Word)
  /-- 0x96, `STX $nn,Y`. -/
  | stxZpY (z : Byte)
  /-- 0x84, `STY $nn`. -/
  | styZp (z : Byte)
  /-- 0x8C, `STY $hhll`. -/
  | styAbs (a : Word)
  /-- 0x94, `STY $nn,X`. -/
  | styZpX (z : Byte)
  /-- 0xAA, `TAX`. -/
  | tax
  /-- 0xA8, `TAY`. -/
  | tay
  /-- 0x8A, `TXA`. -/
  | txa
  /-- 0x98, `TYA`. -/
  | tya
  /-- 0xBA, `TSX`. -/
  | tsx
  /-- 0x9A, `TXS`. -/
  | txs
  /-- 0xC1, `CMP ($nn,X)`. -/
  | cmpIndX (z : Byte)
  /-- 0xC5, `CMP $nn`. -/
  | cmpZp (z : Byte)
  /-- 0xC9, `CMP #$nn`. -/
  | cmpImm (v : Byte)
  /-- 0xCD, `CMP $hhll`. -/
  | cmpAbs (a : Word)
  /-- 0xD1, `CMP ($nn),Y`. -/
  | cmpIndY (z : Byte)
  /-- 0xD5, `CMP $nn,X`. -/
  | cmpZpX (z : Byte)
  /-- 0xD9, `CMP $hhll,Y`. -/
  | cmpAbsY (a : Word)
  /-- 0xDD, `CMP $hhll,X`. -/
  | cmpAbsX (a : Word)
  /-- 0xE0, `CPX #$nn`. -/
  | cpxImm (v : Byte)
  /-- 0xE4, `CPX $nn`. -/
  | cpxZp (z : Byte)
  /-- 0xEC, `CPX $hhll`. -/
  | cpxAbs (a : Word)
  /-- 0xC0, `CPY #$nn`. -/
  | cpyImm (v : Byte)
  /-- 0xC4, `CPY $nn`. -/
  | cpyZp (z : Byte)
  /-- 0xCC, `CPY $hhll`. -/
  | cpyAbs (a : Word)
  /-- 0x10, `BPL $target`. -/
  | bpl (r : Byte)
  /-- 0x30, `BMI $target`. -/
  | bmi (r : Byte)
  /-- 0x50, `BVC $target`. -/
  | bvc (r : Byte)
  /-- 0x70, `BVS $target`. -/
  | bvs (r : Byte)
  /-- 0x90, `BCC $target`. -/
  | bcc (r : Byte)
  /-- 0xB0, `BCS $target`. -/
  | bcs (r : Byte)
  /-- 0xD0, `BNE $target`. -/
  | bne (r : Byte)
  /-- 0xF0, `BEQ $target`. -/
  | beq (r : Byte)
  /-- 0x48, `PHA`. -/
  | pha
  /-- 0x08, `PHP`. -/
  | php
  /-- 0x68, `PLA`. -/
  | pla
  /-- 0x28, `PLP`. -/
  | plp
  /-- 0x4C, `JMP $hhll`. -/
  | jmpAbs (a : Word)
  /-- 0x6C, `JMP ($hhll)`. -/
  | jmpInd (ptr : Word)
  /-- 0x20, `JSR $hhll`. -/
  | jsrAbs (a : Word)
  /-- 0x60, `RTS`. -/
  | rts
  /-- 0x18, `CLC`. -/
  | clc
  /-- 0x38, `SEC`. -/
  | sec
  /-- 0x58, `CLI`. -/
  | cli
  /-- 0x78, `SEI`. -/
  | sei
  /-- 0xD8, `CLD`. -/
  | cld
  /-- 0xF8, `SED`. -/
  | sed
  /-- 0xB8, `CLV`. -/
  | clv
  /-- 0xEA, `NOP`. -/
  | nop
  /-- 0x00, `BRK`. -/
  | brk
  /-- 0x40, `RTI`. -/
  | rti
  deriving DecidableEq, Repr

/-- The mnemonic of an instruction (the mnemonic column of R103's listing). -/
def Instr.op : Instr → Op
  | .adcIndX _ => .adc
  | .adcZp _ => .adc
  | .adcImm _ => .adc
  | .adcAbs _ => .adc
  | .adcIndY _ => .adc
  | .adcZpX _ => .adc
  | .adcAbsY _ => .adc
  | .adcAbsX _ => .adc
  | .sbcIndX _ => .sbc
  | .sbcZp _ => .sbc
  | .sbcImm _ => .sbc
  | .sbcAbs _ => .sbc
  | .sbcIndY _ => .sbc
  | .sbcZpX _ => .sbc
  | .sbcAbsY _ => .sbc
  | .sbcAbsX _ => .sbc
  | .incZp _ => .inc
  | .incAbs _ => .inc
  | .incZpX _ => .inc
  | .incAbsX _ => .inc
  | .decZp _ => .dec
  | .decAbs _ => .dec
  | .decZpX _ => .dec
  | .decAbsX _ => .dec
  | .inx => .inx
  | .iny => .iny
  | .dex => .dex
  | .dey => .dey
  | .andIndX _ => .and
  | .andZp _ => .and
  | .andImm _ => .and
  | .andAbs _ => .and
  | .andIndY _ => .and
  | .andZpX _ => .and
  | .andAbsY _ => .and
  | .andAbsX _ => .and
  | .oraIndX _ => .ora
  | .oraZp _ => .ora
  | .oraImm _ => .ora
  | .oraAbs _ => .ora
  | .oraIndY _ => .ora
  | .oraZpX _ => .ora
  | .oraAbsY _ => .ora
  | .oraAbsX _ => .ora
  | .eorIndX _ => .eor
  | .eorZp _ => .eor
  | .eorImm _ => .eor
  | .eorAbs _ => .eor
  | .eorIndY _ => .eor
  | .eorZpX _ => .eor
  | .eorAbsY _ => .eor
  | .eorAbsX _ => .eor
  | .bitZp _ => .bit
  | .bitAbs _ => .bit
  | .aslZp _ => .asl
  | .aslA => .asl
  | .aslAbs _ => .asl
  | .aslZpX _ => .asl
  | .aslAbsX _ => .asl
  | .lsrZp _ => .lsr
  | .lsrA => .lsr
  | .lsrAbs _ => .lsr
  | .lsrZpX _ => .lsr
  | .lsrAbsX _ => .lsr
  | .rolZp _ => .rol
  | .rolA => .rol
  | .rolAbs _ => .rol
  | .rolZpX _ => .rol
  | .rolAbsX _ => .rol
  | .rorZp _ => .ror
  | .rorA => .ror
  | .rorAbs _ => .ror
  | .rorZpX _ => .ror
  | .rorAbsX _ => .ror
  | .ldaIndX _ => .lda
  | .ldaZp _ => .lda
  | .ldaImm _ => .lda
  | .ldaAbs _ => .lda
  | .ldaIndY _ => .lda
  | .ldaZpX _ => .lda
  | .ldaAbsY _ => .lda
  | .ldaAbsX _ => .lda
  | .ldxImm _ => .ldx
  | .ldxZp _ => .ldx
  | .ldxAbs _ => .ldx
  | .ldxZpY _ => .ldx
  | .ldxAbsY _ => .ldx
  | .ldyImm _ => .ldy
  | .ldyZp _ => .ldy
  | .ldyAbs _ => .ldy
  | .ldyZpX _ => .ldy
  | .ldyAbsX _ => .ldy
  | .staIndX _ => .sta
  | .staZp _ => .sta
  | .staAbs _ => .sta
  | .staIndY _ => .sta
  | .staZpX _ => .sta
  | .staAbsY _ => .sta
  | .staAbsX _ => .sta
  | .stxZp _ => .stx
  | .stxAbs _ => .stx
  | .stxZpY _ => .stx
  | .styZp _ => .sty
  | .styAbs _ => .sty
  | .styZpX _ => .sty
  | .tax => .tax
  | .tay => .tay
  | .txa => .txa
  | .tya => .tya
  | .tsx => .tsx
  | .txs => .txs
  | .cmpIndX _ => .cmp
  | .cmpZp _ => .cmp
  | .cmpImm _ => .cmp
  | .cmpAbs _ => .cmp
  | .cmpIndY _ => .cmp
  | .cmpZpX _ => .cmp
  | .cmpAbsY _ => .cmp
  | .cmpAbsX _ => .cmp
  | .cpxImm _ => .cpx
  | .cpxZp _ => .cpx
  | .cpxAbs _ => .cpx
  | .cpyImm _ => .cpy
  | .cpyZp _ => .cpy
  | .cpyAbs _ => .cpy
  | .bpl _ => .bpl
  | .bmi _ => .bmi
  | .bvc _ => .bvc
  | .bvs _ => .bvs
  | .bcc _ => .bcc
  | .bcs _ => .bcs
  | .bne _ => .bne
  | .beq _ => .beq
  | .pha => .pha
  | .php => .php
  | .pla => .pla
  | .plp => .plp
  | .jmpAbs _ => .jmp
  | .jmpInd _ => .jmp
  | .jsrAbs _ => .jsr
  | .rts => .rts
  | .clc => .clc
  | .sec => .sec
  | .cli => .cli
  | .sei => .sei
  | .cld => .cld
  | .sed => .sed
  | .clv => .clv
  | .nop => .nop
  | .brk => .brk
  | .rti => .rti

/-- The operand of an instruction (the mode column of R103's listing, with the operand bytes of R100). -/
def Instr.operand : Instr → Option Operand
  | .adcIndX z => some (.loc (.mem (.indX z)))
  | .adcZp z => some (.loc (.mem (.zp z)))
  | .adcImm v => some (.imm v)
  | .adcAbs a => some (.loc (.mem (.abs a)))
  | .adcIndY z => some (.loc (.mem (.indY z)))
  | .adcZpX z => some (.loc (.mem (.zpX z)))
  | .adcAbsY a => some (.loc (.mem (.absY a)))
  | .adcAbsX a => some (.loc (.mem (.absX a)))
  | .sbcIndX z => some (.loc (.mem (.indX z)))
  | .sbcZp z => some (.loc (.mem (.zp z)))
  | .sbcImm v => some (.imm v)
  | .sbcAbs a => some (.loc (.mem (.abs a)))
  | .sbcIndY z => some (.loc (.mem (.indY z)))
  | .sbcZpX z => some (.loc (.mem (.zpX z)))
  | .sbcAbsY a => some (.loc (.mem (.absY a)))
  | .sbcAbsX a => some (.loc (.mem (.absX a)))
  | .incZp z => some (.loc (.mem (.zp z)))
  | .incAbs a => some (.loc (.mem (.abs a)))
  | .incZpX z => some (.loc (.mem (.zpX z)))
  | .incAbsX a => some (.loc (.mem (.absX a)))
  | .decZp z => some (.loc (.mem (.zp z)))
  | .decAbs a => some (.loc (.mem (.abs a)))
  | .decZpX z => some (.loc (.mem (.zpX z)))
  | .decAbsX a => some (.loc (.mem (.absX a)))
  | .inx => none
  | .iny => none
  | .dex => none
  | .dey => none
  | .andIndX z => some (.loc (.mem (.indX z)))
  | .andZp z => some (.loc (.mem (.zp z)))
  | .andImm v => some (.imm v)
  | .andAbs a => some (.loc (.mem (.abs a)))
  | .andIndY z => some (.loc (.mem (.indY z)))
  | .andZpX z => some (.loc (.mem (.zpX z)))
  | .andAbsY a => some (.loc (.mem (.absY a)))
  | .andAbsX a => some (.loc (.mem (.absX a)))
  | .oraIndX z => some (.loc (.mem (.indX z)))
  | .oraZp z => some (.loc (.mem (.zp z)))
  | .oraImm v => some (.imm v)
  | .oraAbs a => some (.loc (.mem (.abs a)))
  | .oraIndY z => some (.loc (.mem (.indY z)))
  | .oraZpX z => some (.loc (.mem (.zpX z)))
  | .oraAbsY a => some (.loc (.mem (.absY a)))
  | .oraAbsX a => some (.loc (.mem (.absX a)))
  | .eorIndX z => some (.loc (.mem (.indX z)))
  | .eorZp z => some (.loc (.mem (.zp z)))
  | .eorImm v => some (.imm v)
  | .eorAbs a => some (.loc (.mem (.abs a)))
  | .eorIndY z => some (.loc (.mem (.indY z)))
  | .eorZpX z => some (.loc (.mem (.zpX z)))
  | .eorAbsY a => some (.loc (.mem (.absY a)))
  | .eorAbsX a => some (.loc (.mem (.absX a)))
  | .bitZp z => some (.loc (.mem (.zp z)))
  | .bitAbs a => some (.loc (.mem (.abs a)))
  | .aslZp z => some (.loc (.mem (.zp z)))
  | .aslA => some (.loc .acc)
  | .aslAbs a => some (.loc (.mem (.abs a)))
  | .aslZpX z => some (.loc (.mem (.zpX z)))
  | .aslAbsX a => some (.loc (.mem (.absX a)))
  | .lsrZp z => some (.loc (.mem (.zp z)))
  | .lsrA => some (.loc .acc)
  | .lsrAbs a => some (.loc (.mem (.abs a)))
  | .lsrZpX z => some (.loc (.mem (.zpX z)))
  | .lsrAbsX a => some (.loc (.mem (.absX a)))
  | .rolZp z => some (.loc (.mem (.zp z)))
  | .rolA => some (.loc .acc)
  | .rolAbs a => some (.loc (.mem (.abs a)))
  | .rolZpX z => some (.loc (.mem (.zpX z)))
  | .rolAbsX a => some (.loc (.mem (.absX a)))
  | .rorZp z => some (.loc (.mem (.zp z)))
  | .rorA => some (.loc .acc)
  | .rorAbs a => some (.loc (.mem (.abs a)))
  | .rorZpX z => some (.loc (.mem (.zpX z)))
  | .rorAbsX a => some (.loc (.mem (.absX a)))
  | .ldaIndX z => some (.loc (.mem (.indX z)))
  | .ldaZp z => some (.loc (.mem (.zp z)))
  | .ldaImm v => some (.imm v)
  | .ldaAbs a => some (.loc (.mem (.abs a)))
  | .ldaIndY z => some (.loc (.mem (.indY z)))
  | .ldaZpX z => some (.loc (.mem (.zpX z)))
  | .ldaAbsY a => some (.loc (.mem (.absY a)))
  | .ldaAbsX a => some (.loc (.mem (.absX a)))
  | .ldxImm v => some (.imm v)
  | .ldxZp z => some (.loc (.mem (.zp z)))
  | .ldxAbs a => some (.loc (.mem (.abs a)))
  | .ldxZpY z => some (.loc (.mem (.zpY z)))
  | .ldxAbsY a => some (.loc (.mem (.absY a)))
  | .ldyImm v => some (.imm v)
  | .ldyZp z => some (.loc (.mem (.zp z)))
  | .ldyAbs a => some (.loc (.mem (.abs a)))
  | .ldyZpX z => some (.loc (.mem (.zpX z)))
  | .ldyAbsX a => some (.loc (.mem (.absX a)))
  | .staIndX z => some (.loc (.mem (.indX z)))
  | .staZp z => some (.loc (.mem (.zp z)))
  | .staAbs a => some (.loc (.mem (.abs a)))
  | .staIndY z => some (.loc (.mem (.indY z)))
  | .staZpX z => some (.loc (.mem (.zpX z)))
  | .staAbsY a => some (.loc (.mem (.absY a)))
  | .staAbsX a => some (.loc (.mem (.absX a)))
  | .stxZp z => some (.loc (.mem (.zp z)))
  | .stxAbs a => some (.loc (.mem (.abs a)))
  | .stxZpY z => some (.loc (.mem (.zpY z)))
  | .styZp z => some (.loc (.mem (.zp z)))
  | .styAbs a => some (.loc (.mem (.abs a)))
  | .styZpX z => some (.loc (.mem (.zpX z)))
  | .tax => none
  | .tay => none
  | .txa => none
  | .tya => none
  | .tsx => none
  | .txs => none
  | .cmpIndX z => some (.loc (.mem (.indX z)))
  | .cmpZp z => some (.loc (.mem (.zp z)))
  | .cmpImm v => some (.imm v)
  | .cmpAbs a => some (.loc (.mem (.abs a)))
  | .cmpIndY z => some (.loc (.mem (.indY z)))
  | .cmpZpX z => some (.loc (.mem (.zpX z)))
  | .cmpAbsY a => some (.loc (.mem (.absY a)))
  | .cmpAbsX a => some (.loc (.mem (.absX a)))
  | .cpxImm v => some (.imm v)
  | .cpxZp z => some (.loc (.mem (.zp z)))
  | .cpxAbs a => some (.loc (.mem (.abs a)))
  | .cpyImm v => some (.imm v)
  | .cpyZp z => some (.loc (.mem (.zp z)))
  | .cpyAbs a => some (.loc (.mem (.abs a)))
  | .bpl r => some (.loc (.mem (.rel r)))
  | .bmi r => some (.loc (.mem (.rel r)))
  | .bvc r => some (.loc (.mem (.rel r)))
  | .bvs r => some (.loc (.mem (.rel r)))
  | .bcc r => some (.loc (.mem (.rel r)))
  | .bcs r => some (.loc (.mem (.rel r)))
  | .bne r => some (.loc (.mem (.rel r)))
  | .beq r => some (.loc (.mem (.rel r)))
  | .pha => none
  | .php => none
  | .pla => none
  | .plp => none
  | .jmpAbs a => some (.loc (.mem (.abs a)))
  | .jmpInd ptr => some (.loc (.mem (.ind ptr)))
  | .jsrAbs a => some (.loc (.mem (.abs a)))
  | .rts => none
  | .clc => none
  | .sec => none
  | .cli => none
  | .sei => none
  | .cld => none
  | .sed => none
  | .clv => none
  | .nop => none
  | .brk => none
  | .rti => none

/-- The mode of an addressing-mode form (R108). -/
def AddrMode.mode : AddrMode → Mode
  | .zp _ => .zp
  | .zpX _ => .zpX
  | .zpY _ => .zpY
  | .abs _ => .abs
  | .absX _ => .absX
  | .absY _ => .absY
  | .ind _ => .ind
  | .indX _ => .indX
  | .indY _ => .indY
  | .rel _ => .rel

/-- The mode of an operand (R108). -/
def Operand.mode : Operand → Mode
  | .imm _ => .imm
  | .loc .acc => .acc
  | .loc (.mem m) => m.mode

/-- The addressing mode of an instruction: implied when it has no operand (R108, R110). -/
def Instr.mode (i : Instr) : Mode :=
  match i.operand with
  | none => .imp
  | some o => o.mode

end Sys2Proof
end

