-- ==== Sys2Proof/WellFormed.lean ====
section
/-! DEFINITION. Which addressing modes each mnemonic admits, from the "Encodings" list of its rule (spec/41 to 49): a mnemonic
with a mode outside its list has no encoding. An `Instr` is built of a row of the table, so every one of them is well formed;
the check refuses the forms the spec says do not exist (STA immediate, R273; BIT immediate or indexed, R233). -/

namespace Sys2Proof

/-- The modes that the rule of a mnemonic lists under "Encodings". -/
def Op.modes : Op → List Mode
  | .adc | .sbc | .and | .ora | .eor | .lda | .cmp => [.imm, .zp, .zpX, .abs, .absX, .absY, .indX, .indY]
  | .inc | .dec => [.zp, .zpX, .abs, .absX]
  | .inx | .iny | .dex | .dey | .tax | .tay | .txa | .tya | .tsx | .txs | .pha | .php | .pla | .plp | .rts | .clc | .sec | .cli | .sei | .cld | .sed | .clv | .nop | .brk | .rti => [.imp]
  | .bit => [.zp, .abs]
  | .asl | .lsr | .rol | .ror => [.acc, .zp, .zpX, .abs, .absX]
  | .ldx => [.imm, .zp, .zpY, .abs, .absY]
  | .ldy => [.imm, .zp, .zpX, .abs, .absX]
  | .sta => [.zp, .zpX, .abs, .absX, .absY, .indX, .indY]
  | .stx => [.zp, .zpY, .abs]
  | .sty => [.zp, .zpX, .abs]
  | .cpx | .cpy => [.imm, .zp, .abs]
  | .bpl | .bmi | .bvc | .bvs | .bcc | .bcs | .bne | .beq => [.rel]
  | .jmp => [.abs, .ind]
  | .jsr => [.abs]

/-- A mnemonic with an operand (or with none) is a form of the instruction set exactly when its mode is listed. -/
def wellFormedForm (op : Op) (operand : Option Operand) : Bool :=
  op.modes.contains (match operand with | none => Mode.imp | some o => o.mode)

/-- An instruction is well formed when its mnemonic admits its operand's mode. -/
def Instr.wellFormed (i : Instr) : Bool :=
  wellFormedForm i.op i.operand

end Sys2Proof
end

