-- ==== Sys2Proof/Decode.lean ====
section
/-! DEFINITION. The decoder and the encoder (spec/30_encoding.md R100 to R107). The decoder reads the opcode matrix of R103; the
encoder is written from R103's per-opcode listing, so that each checks the other. -/

namespace Sys2Proof

/-- `hi:lo`, a word assembled from its two bytes (R10, R65). -/
def wordOf (lo hi : Byte) : Word := hi ++ lo

/-- Bits 7..0 of a word (R10). -/
def loByte (w : Word) : Byte := w.extractLsb' 0 8

/-- Bits 15..8 of a word (R10). -/
def hiByte (w : Word) : Byte := w.extractLsb' 8 8

/-- `sext_16(r)`, an 8-bit value read as two's complement (R11, R102). -/
def sext16 (r : Byte) : Word := r.signExtend 16

/-- What the decoder answers: an instruction, or a rejection by name. -/
inductive Decoded where
  /-- A defined opcode with its operand bytes. -/
  | instr (i : Instr)
  /-- One of the 105 byte values of R105. -/
  | undefinedOpcode (op : Byte)
  /-- Fewer bytes than the opcode's format has (R100); a fetch from memory never runs short (R60). -/
  | truncated
  deriving DecidableEq, Repr

/-- A cell of the opcode matrix: an instruction of one byte, or one that takes one or two operand bytes (R100). -/
inductive OpcodeCell where
  /-- Format `op`. -/
  | op (i : Instr)
  /-- Formats `op_imm8`, `op_zp8` and `op_rel8`. -/
  | op8 (mk : Byte → Instr)
  /-- Format `op_abs16`. -/
  | op16 (mk : Word → Instr)

/-- Row 0x of R103's matrix, columns x0 to xF. -/
def matrixRow0 : List (Option OpcodeCell) :=
  [some (.op .brk), some (.op8 .oraIndX), none, none,
   none, some (.op8 .oraZp), some (.op8 .aslZp), none,
   some (.op .php), some (.op8 .oraImm), some (.op .aslA), none,
   none, some (.op16 .oraAbs), some (.op16 .aslAbs), none]

/-- Row 1x of R103's matrix, columns x0 to xF. -/
def matrixRow1 : List (Option OpcodeCell) :=
  [some (.op8 .bpl), some (.op8 .oraIndY), none, none,
   none, some (.op8 .oraZpX), some (.op8 .aslZpX), none,
   some (.op .clc), some (.op16 .oraAbsY), none, none,
   none, some (.op16 .oraAbsX), some (.op16 .aslAbsX), none]

/-- Row 2x of R103's matrix, columns x0 to xF. -/
def matrixRow2 : List (Option OpcodeCell) :=
  [some (.op16 .jsrAbs), some (.op8 .andIndX), none, none,
   some (.op8 .bitZp), some (.op8 .andZp), some (.op8 .rolZp), none,
   some (.op .plp), some (.op8 .andImm), some (.op .rolA), none,
   some (.op16 .bitAbs), some (.op16 .andAbs), some (.op16 .rolAbs), none]

/-- Row 3x of R103's matrix, columns x0 to xF. -/
def matrixRow3 : List (Option OpcodeCell) :=
  [some (.op8 .bmi), some (.op8 .andIndY), none, none,
   none, some (.op8 .andZpX), some (.op8 .rolZpX), none,
   some (.op .sec), some (.op16 .andAbsY), none, none,
   none, some (.op16 .andAbsX), some (.op16 .rolAbsX), none]

/-- Row 4x of R103's matrix, columns x0 to xF. -/
def matrixRow4 : List (Option OpcodeCell) :=
  [some (.op .rti), some (.op8 .eorIndX), none, none,
   none, some (.op8 .eorZp), some (.op8 .lsrZp), none,
   some (.op .pha), some (.op8 .eorImm), some (.op .lsrA), none,
   some (.op16 .jmpAbs), some (.op16 .eorAbs), some (.op16 .lsrAbs), none]

/-- Row 5x of R103's matrix, columns x0 to xF. -/
def matrixRow5 : List (Option OpcodeCell) :=
  [some (.op8 .bvc), some (.op8 .eorIndY), none, none,
   none, some (.op8 .eorZpX), some (.op8 .lsrZpX), none,
   some (.op .cli), some (.op16 .eorAbsY), none, none,
   none, some (.op16 .eorAbsX), some (.op16 .lsrAbsX), none]

/-- Row 6x of R103's matrix, columns x0 to xF. -/
def matrixRow6 : List (Option OpcodeCell) :=
  [some (.op .rts), some (.op8 .adcIndX), none, none,
   none, some (.op8 .adcZp), some (.op8 .rorZp), none,
   some (.op .pla), some (.op8 .adcImm), some (.op .rorA), none,
   some (.op16 .jmpInd), some (.op16 .adcAbs), some (.op16 .rorAbs), none]

/-- Row 7x of R103's matrix, columns x0 to xF. -/
def matrixRow7 : List (Option OpcodeCell) :=
  [some (.op8 .bvs), some (.op8 .adcIndY), none, none,
   none, some (.op8 .adcZpX), some (.op8 .rorZpX), none,
   some (.op .sei), some (.op16 .adcAbsY), none, none,
   none, some (.op16 .adcAbsX), some (.op16 .rorAbsX), none]

/-- Row 8x of R103's matrix, columns x0 to xF. -/
def matrixRow8 : List (Option OpcodeCell) :=
  [none, some (.op8 .staIndX), none, none,
   some (.op8 .styZp), some (.op8 .staZp), some (.op8 .stxZp), none,
   some (.op .dey), none, some (.op .txa), none,
   some (.op16 .styAbs), some (.op16 .staAbs), some (.op16 .stxAbs), none]

/-- Row 9x of R103's matrix, columns x0 to xF. -/
def matrixRow9 : List (Option OpcodeCell) :=
  [some (.op8 .bcc), some (.op8 .staIndY), none, none,
   some (.op8 .styZpX), some (.op8 .staZpX), some (.op8 .stxZpY), none,
   some (.op .tya), some (.op16 .staAbsY), some (.op .txs), none,
   none, some (.op16 .staAbsX), none, none]

/-- Row Ax of R103's matrix, columns x0 to xF. -/
def matrixRowA : List (Option OpcodeCell) :=
  [some (.op8 .ldyImm), some (.op8 .ldaIndX), some (.op8 .ldxImm), none,
   some (.op8 .ldyZp), some (.op8 .ldaZp), some (.op8 .ldxZp), none,
   some (.op .tay), some (.op8 .ldaImm), some (.op .tax), none,
   some (.op16 .ldyAbs), some (.op16 .ldaAbs), some (.op16 .ldxAbs), none]

/-- Row Bx of R103's matrix, columns x0 to xF. -/
def matrixRowB : List (Option OpcodeCell) :=
  [some (.op8 .bcs), some (.op8 .ldaIndY), none, none,
   some (.op8 .ldyZpX), some (.op8 .ldaZpX), some (.op8 .ldxZpY), none,
   some (.op .clv), some (.op16 .ldaAbsY), some (.op .tsx), none,
   some (.op16 .ldyAbsX), some (.op16 .ldaAbsX), some (.op16 .ldxAbsY), none]

/-- Row Cx of R103's matrix, columns x0 to xF. -/
def matrixRowC : List (Option OpcodeCell) :=
  [some (.op8 .cpyImm), some (.op8 .cmpIndX), none, none,
   some (.op8 .cpyZp), some (.op8 .cmpZp), some (.op8 .decZp), none,
   some (.op .iny), some (.op8 .cmpImm), some (.op .dex), none,
   some (.op16 .cpyAbs), some (.op16 .cmpAbs), some (.op16 .decAbs), none]

/-- Row Dx of R103's matrix, columns x0 to xF. -/
def matrixRowD : List (Option OpcodeCell) :=
  [some (.op8 .bne), some (.op8 .cmpIndY), none, none,
   none, some (.op8 .cmpZpX), some (.op8 .decZpX), none,
   some (.op .cld), some (.op16 .cmpAbsY), none, none,
   none, some (.op16 .cmpAbsX), some (.op16 .decAbsX), none]

/-- Row Ex of R103's matrix, columns x0 to xF. -/
def matrixRowE : List (Option OpcodeCell) :=
  [some (.op8 .cpxImm), some (.op8 .sbcIndX), none, none,
   some (.op8 .cpxZp), some (.op8 .sbcZp), some (.op8 .incZp), none,
   some (.op .inx), some (.op8 .sbcImm), some (.op .nop), none,
   some (.op16 .cpxAbs), some (.op16 .sbcAbs), some (.op16 .incAbs), none]

/-- Row Fx of R103's matrix, columns x0 to xF. -/
def matrixRowF : List (Option OpcodeCell) :=
  [some (.op8 .beq), some (.op8 .sbcIndY), none, none,
   none, some (.op8 .sbcZpX), some (.op8 .incZpX), none,
   some (.op .sed), some (.op16 .sbcAbsY), none, none,
   none, some (.op16 .sbcAbsX), some (.op16 .incAbsX), none]

/-- The opcode matrix of R103: the rows by high nibble. -/
def opcodeMatrix : List (List (Option OpcodeCell)) :=
  [matrixRow0, matrixRow1, matrixRow2, matrixRow3, matrixRow4, matrixRow5, matrixRow6, matrixRow7,
   matrixRow8, matrixRow9, matrixRowA, matrixRowB, matrixRowC, matrixRowD, matrixRowE, matrixRowF]

/-- The matrix cell of an opcode byte: row = high nibble, column = low nibble; `none` for an undefined byte (R103, R105). -/
def opcodeCell (op : Byte) : Option OpcodeCell :=
  match opcodeMatrix[op.toNat / 16]? with
  | none => none
  | some row =>
    match row[op.toNat % 16]? with
    | none => none
    | some c => c

/-- Adds the operand bytes of a cell's format, in increasing address order (R100, R102). -/
def OpcodeCell.assemble : OpcodeCell → List Byte → Decoded
  | .op i, _ => .instr i
  | .op8 mk, b :: _ => .instr (mk b)
  | .op16 mk, lo :: hi :: _ => .instr (mk (wordOf lo hi))
  | _, _ => .truncated

/-- The decoder: reads the opcode byte, looks it up, and takes the operand bytes its format names (R101). -/
def decode : List Byte → Decoded
  | [] => .truncated
  | op :: rest =>
    match opcodeCell op with
    | none => .undefinedOpcode op
    | some c => c.assemble rest

/-- The number of operand bytes of a mode (R100, R108). -/
def Mode.operandBytes : Mode → Nat
  | .imp | .acc => 0
  | .imm | .zp | .zpX | .zpY | .indX | .indY | .rel => 1
  | .abs | .absX | .absY | .ind => 2

/-- The length of an instruction in bytes: its opcode byte and its mode's operand bytes (R100, R101). -/
def Instr.length (i : Instr) : Nat := 1 + i.mode.operandBytes

/-- The opcode byte of an instruction, from R103's per-opcode listing. -/
def Instr.opcode : Instr → Byte
  | .adcIndX _ => 0x61#8
  | .adcZp _ => 0x65#8
  | .adcImm _ => 0x69#8
  | .adcAbs _ => 0x6D#8
  | .adcIndY _ => 0x71#8
  | .adcZpX _ => 0x75#8
  | .adcAbsY _ => 0x79#8
  | .adcAbsX _ => 0x7D#8
  | .sbcIndX _ => 0xE1#8
  | .sbcZp _ => 0xE5#8
  | .sbcImm _ => 0xE9#8
  | .sbcAbs _ => 0xED#8
  | .sbcIndY _ => 0xF1#8
  | .sbcZpX _ => 0xF5#8
  | .sbcAbsY _ => 0xF9#8
  | .sbcAbsX _ => 0xFD#8
  | .incZp _ => 0xE6#8
  | .incAbs _ => 0xEE#8
  | .incZpX _ => 0xF6#8
  | .incAbsX _ => 0xFE#8
  | .decZp _ => 0xC6#8
  | .decAbs _ => 0xCE#8
  | .decZpX _ => 0xD6#8
  | .decAbsX _ => 0xDE#8
  | .inx => 0xE8#8
  | .iny => 0xC8#8
  | .dex => 0xCA#8
  | .dey => 0x88#8
  | .andIndX _ => 0x21#8
  | .andZp _ => 0x25#8
  | .andImm _ => 0x29#8
  | .andAbs _ => 0x2D#8
  | .andIndY _ => 0x31#8
  | .andZpX _ => 0x35#8
  | .andAbsY _ => 0x39#8
  | .andAbsX _ => 0x3D#8
  | .oraIndX _ => 0x01#8
  | .oraZp _ => 0x05#8
  | .oraImm _ => 0x09#8
  | .oraAbs _ => 0x0D#8
  | .oraIndY _ => 0x11#8
  | .oraZpX _ => 0x15#8
  | .oraAbsY _ => 0x19#8
  | .oraAbsX _ => 0x1D#8
  | .eorIndX _ => 0x41#8
  | .eorZp _ => 0x45#8
  | .eorImm _ => 0x49#8
  | .eorAbs _ => 0x4D#8
  | .eorIndY _ => 0x51#8
  | .eorZpX _ => 0x55#8
  | .eorAbsY _ => 0x59#8
  | .eorAbsX _ => 0x5D#8
  | .bitZp _ => 0x24#8
  | .bitAbs _ => 0x2C#8
  | .aslZp _ => 0x06#8
  | .aslA => 0x0A#8
  | .aslAbs _ => 0x0E#8
  | .aslZpX _ => 0x16#8
  | .aslAbsX _ => 0x1E#8
  | .lsrZp _ => 0x46#8
  | .lsrA => 0x4A#8
  | .lsrAbs _ => 0x4E#8
  | .lsrZpX _ => 0x56#8
  | .lsrAbsX _ => 0x5E#8
  | .rolZp _ => 0x26#8
  | .rolA => 0x2A#8
  | .rolAbs _ => 0x2E#8
  | .rolZpX _ => 0x36#8
  | .rolAbsX _ => 0x3E#8
  | .rorZp _ => 0x66#8
  | .rorA => 0x6A#8
  | .rorAbs _ => 0x6E#8
  | .rorZpX _ => 0x76#8
  | .rorAbsX _ => 0x7E#8
  | .ldaIndX _ => 0xA1#8
  | .ldaZp _ => 0xA5#8
  | .ldaImm _ => 0xA9#8
  | .ldaAbs _ => 0xAD#8
  | .ldaIndY _ => 0xB1#8
  | .ldaZpX _ => 0xB5#8
  | .ldaAbsY _ => 0xB9#8
  | .ldaAbsX _ => 0xBD#8
  | .ldxImm _ => 0xA2#8
  | .ldxZp _ => 0xA6#8
  | .ldxAbs _ => 0xAE#8
  | .ldxZpY _ => 0xB6#8
  | .ldxAbsY _ => 0xBE#8
  | .ldyImm _ => 0xA0#8
  | .ldyZp _ => 0xA4#8
  | .ldyAbs _ => 0xAC#8
  | .ldyZpX _ => 0xB4#8
  | .ldyAbsX _ => 0xBC#8
  | .staIndX _ => 0x81#8
  | .staZp _ => 0x85#8
  | .staAbs _ => 0x8D#8
  | .staIndY _ => 0x91#8
  | .staZpX _ => 0x95#8
  | .staAbsY _ => 0x99#8
  | .staAbsX _ => 0x9D#8
  | .stxZp _ => 0x86#8
  | .stxAbs _ => 0x8E#8
  | .stxZpY _ => 0x96#8
  | .styZp _ => 0x84#8
  | .styAbs _ => 0x8C#8
  | .styZpX _ => 0x94#8
  | .tax => 0xAA#8
  | .tay => 0xA8#8
  | .txa => 0x8A#8
  | .tya => 0x98#8
  | .tsx => 0xBA#8
  | .txs => 0x9A#8
  | .cmpIndX _ => 0xC1#8
  | .cmpZp _ => 0xC5#8
  | .cmpImm _ => 0xC9#8
  | .cmpAbs _ => 0xCD#8
  | .cmpIndY _ => 0xD1#8
  | .cmpZpX _ => 0xD5#8
  | .cmpAbsY _ => 0xD9#8
  | .cmpAbsX _ => 0xDD#8
  | .cpxImm _ => 0xE0#8
  | .cpxZp _ => 0xE4#8
  | .cpxAbs _ => 0xEC#8
  | .cpyImm _ => 0xC0#8
  | .cpyZp _ => 0xC4#8
  | .cpyAbs _ => 0xCC#8
  | .bpl _ => 0x10#8
  | .bmi _ => 0x30#8
  | .bvc _ => 0x50#8
  | .bvs _ => 0x70#8
  | .bcc _ => 0x90#8
  | .bcs _ => 0xB0#8
  | .bne _ => 0xD0#8
  | .beq _ => 0xF0#8
  | .pha => 0x48#8
  | .php => 0x08#8
  | .pla => 0x68#8
  | .plp => 0x28#8
  | .jmpAbs _ => 0x4C#8
  | .jmpInd _ => 0x6C#8
  | .jsrAbs _ => 0x20#8
  | .rts => 0x60#8
  | .clc => 0x18#8
  | .sec => 0x38#8
  | .cli => 0x58#8
  | .sei => 0x78#8
  | .cld => 0xD8#8
  | .sed => 0xF8#8
  | .clv => 0xB8#8
  | .nop => 0xEA#8
  | .brk => 0x00#8
  | .rti => 0x40#8

/-- The operand bytes of an addressing-mode form, low byte first (R100). -/
def AddrMode.bytes : AddrMode → List Byte
  | .zp z | .zpX z | .zpY z | .indX z | .indY z => [z]
  | .rel r => [r]
  | .abs a | .absX a | .absY a => [loByte a, hiByte a]
  | .ind ptr => [loByte ptr, hiByte ptr]

/-- The operand bytes of an operand (R100). -/
def Operand.bytes : Operand → List Byte
  | .imm v => [v]
  | .loc .acc => []
  | .loc (.mem m) => m.bytes

/-- The encoder: the opcode byte and then the operand bytes (R100). -/
def encode (i : Instr) : List Byte :=
  i.opcode :: (match i.operand with | none => [] | some o => o.bytes)

/-- The three bytes of a word numbered as spec/opcode_table.json numbers an instruction's bits, byte 0 first; every bit at
or above `nbits` is 0. -/
def tableWordBytes (nbits w : Nat) : List Byte :=
  let v := w % 2 ^ nbits
  [BitVec.ofNat 8 v, BitVec.ofNat 8 (v / 256), BitVec.ofNat 8 (v / 65536)]

/-- The instruction the decoder reads from a table row's word. -/
def decodeTableWord (nbits w : Nat) : Option Instr :=
  match decode (tableWordBytes nbits w) with
  | .instr i => some i
  | .undefinedOpcode _ => none
  | .truncated => none

end Sys2Proof
end

