-- ==== Sys2Proof/Config.lean ====
section
/-! DEFINITION. The implementation parameters of spec/00_scope.md R9 that the model fixes, and the type of the one that stays open. -/

namespace Sys2Proof

/-- `DECIMAL_MODE`, the implementation parameter of R201 (decision D8). State carries its value, so that a claim about
every state covers both. -/
inductive DecimalMode where
  | nmosBcd
  | binaryOnly
  deriving DecidableEq, Repr

namespace Config

/-- `NMI_VECTOR` (R9, R401, decision D6, conflict C3). -/
def nmiVector : Word := 0xFFFA#16

/-- The reset vector (R70, R401). -/
def resetVector : Word := 0xFFFC#16

/-- The IRQ and BRK vector (R70, R401). -/
def irqVector : Word := 0xFFFE#16

/-- `RESET_SP` (R9, R24, decision D4). DESIGN CHOICE, log 4: the parameter is fixed at R9's value. -/
def resetSp : Byte := 0xFD#8

/-- What an address that memory does not list reads as: the zero fill of R72.
DESIGN CHOICE, log 1: `INIT_MEM` is a parameter of the spec (decision D10). -/
def unlistedByte : Byte := 0x00#8

end Config

end Sys2Proof
end

