-- ==== Sys2Proof/Machine/State.lean ====
section
/-! DEFINITION. The state of the machine as plain data (spec/10_state.md R20 to R45), the reasons a step can stop, and the
state right after reset. -/

namespace Sys2Proof.Machine

/-- The fault reasons, a closed enumeration with one member (R400). -/
inductive Fault where
  /-- The decode fault of R409: the fetch of an undefined opcode byte `op` at `addr` (R105, decision D1). The step's fetch
  raises it and LATCHES it in `State.fault`, with the core Halted and the pc at the byte (log 6); the step itself answers that
  next state, so no step ends in `Outcome.fault`. UNSAFE towards silicon, which executes something undocumented there: a claim
  about a run takes "no fault is latched" as a premise (Safety.lean). -/
  | decodeFault (addr : Word) (op : Byte)
  deriving DecidableEq, Repr

/-- The refusals: the spec treats no behaviour as a refusal (spec/93_implementation_defined.md, end of Part 1). -/
inductive Refusal where
  /-- An instruction without a meaning, rejected by name in `exec`'s arm; safe. No arm of this model answers it. -/
  | notModelled (mnemonic : String)
  deriving DecidableEq, Repr

/-- The run state (R37): host-interface state, which no instruction reads or writes. -/
inductive RunState where
  | running
  | halted
  deriving DecidableEq, Repr

/-- The status register P as its named flags (R26). Bit 5 of its byte image has no storage (R32). -/
structure Flags where
  /-- Negative, bit 7 (R34). -/
  n : Bool
  /-- Overflow, bit 6 (R33). -/
  v : Bool
  /-- The stored Break, bit 4: a snapshot-only bit that only new() and reset write, to 0 (R31). -/
  b : Bool
  /-- Decimal, bit 3 (R30). -/
  d : Bool
  /-- Interrupt-Disable, bit 2 (R29). -/
  i : Bool
  /-- Zero, bit 1 (R28). -/
  z : Bool
  /-- Carry, bit 0 (R27). -/
  c : Bool
  deriving DecidableEq, Repr

/-- The values that `reset()` leaves unspecified, free inputs of the call (R500, decisions D2, D3). -/
structure ResetDraw where
  a : Byte
  x : Byte
  y : Byte
  n : Bool
  v : Bool
  d : Bool
  z : Bool
  c : Bool
  deriving DecidableEq, Repr

/-- The values that `new()` leaves unspecified, free inputs of the call (R44, decision D11). -/
structure NewDraw where
  a : Byte
  x : Byte
  y : Byte
  sp : Byte
  n : Bool
  v : Bool
  d : Bool
  i : Bool
  z : Bool
  c : Bool
  deriving DecidableEq, Repr

/-- What the host can do to a core at an instruction boundary (R418). `new()` makes the core, and the snapshot changes no
state, so these two are functions (Machine/HostOps.lean) and no calls of a run. -/
inductive HostCall where
  /-- `step(irq, nmiEarly)` (R130): `irq` is the level the line holds. -/
  | step (nmiEarly : Bool)
  /-- `reset()` (R500), with the values it draws. -/
  | reset (draw : ResetDraw)
  /-- `halt_resume()` (R37, R417). -/
  | haltResume
  /-- An NMI request at a boundary (R403). -/
  | nmiRequest
  /-- Drives the IRQ input to a level (R402). -/
  | driveIrq (level : Bool)
  /-- Loads bytes at increasing addresses (R72, R418). R418 has it before the first step, and R409 speaks of a host write to
  an undefined byte: the model takes it at any boundary. DESIGN CHOICE, log 13. -/
  | load (addr : Word) (bytes : List Byte)
  deriving DecidableEq, Repr

/-- Memory: the listed (address, byte) pairs, addresses strictly rising, no entry equal to `Config.unlistedByte`
(the form is `Memory.wf`, Machine/Ops.lean). It covers the 65536 byte addresses of R60. -/
abbrev Memory := List Host.Cell

/-- The state of the machine. -/
@[ext]
structure State where
  /-- The accumulator (R21). -/
  a : Byte
  /-- Index register X (R22). -/
  x : Byte
  /-- Index register Y (R23). -/
  y : Byte
  /-- The stack pointer S, an offset into page 0x01 (R24). -/
  sp : Byte
  /-- The program counter (R25). -/
  pc : Word
  /-- The status register P (R26). -/
  p : Flags
  /-- The run state (R37). -/
  run : RunState
  /-- The decode-fault latch (R39). -/
  fault : Option Fault
  /-- The NMI request latch (R40). -/
  nmiPending : Bool
  /-- The value of I that the IRQ test of the next boundary uses (R41). -/
  pollI : Bool
  /-- The memory the core drives (R60, R72). -/
  mem : Memory
  /-- The implementation parameter `DECIMAL_MODE` (R9, R201), which nothing writes. DESIGN CHOICE, log 5. -/
  decimalMode : DecimalMode
  /-- The level of the IRQ input, driven by the host (R42, R402). DESIGN CHOICE, log 8: held here as data. -/
  irq : Bool
  /-- The input `nmiEarly` of the next step, consumed by it (R42, R130, R407). DESIGN CHOICE, log 8: held here as data. -/
  nmiEarly : Bool
  /-- The model's own field: the host calls still to come, oldest first; when there is none the host calls `step()`.
  DESIGN CHOICE, log 7. -/
  host : List HostCall
  /-- The model's own field: the cycle count that the last `step()` returned (R510). DESIGN CHOICE, log 9. -/
  cycles : Nat
  deriving DecidableEq, Repr

/-- The machine right after reset (R45, R500), with memory listing nothing: PC is `Read16(0xFFFC)` = 0x0000 (R502).
A, X, Y and N, V, D, Z, C are draws of the spec; the model names zero for them (DESIGN CHOICE, log 2 and log 3). -/
def State.reset : State where
  a := 0x00#8
  x := 0x00#8
  y := 0x00#8
  sp := Config.resetSp
  pc := 0x0000#16
  p := ⟨false, false, false, false, true, false, false⟩
  run := .running
  fault := none
  nmiPending := false
  pollI := true
  mem := []
  decimalMode := .nmosBcd
  irq := false
  nmiEarly := false
  host := []
  cycles := 0

end Sys2Proof.Machine
end

