-- ==== Sys2Proof/Machine/Ops.lean ====
section
/-! DEFINITION. The named operations over memory and registers (spec/20_memory.md R60 to R76), the entry sequence that
interrupts and BRK share (spec/60_exceptions.md R405), the return from it (R389), and the decode fault (R409). -/

namespace Sys2Proof.Machine

/-- What a step or a meaning answers. -/
abbrev Result := Host.Outcome State Fault Refusal

/-! ## Register writes (`R <- v`, R20) -/

def State.setA (s : State) (v : Byte) : State := { s with a := v }
def State.setX (s : State) (v : Byte) : State := { s with x := v }
def State.setY (s : State) (v : Byte) : State := { s with y := v }
def State.setSp (s : State) (v : Byte) : State := { s with sp := v }
def State.setPc (s : State) (v : Word) : State := { s with pc := v }
def State.setP (s : State) (v : Flags) : State := { s with p := v }
def State.setRun (s : State) (v : RunState) : State := { s with run := v }
def State.setFault (s : State) (v : Option Fault) : State := { s with fault := v }
def State.setNmiPending (s : State) (v : Bool) : State := { s with nmiPending := v }
def State.setPollI (s : State) (v : Bool) : State := { s with pollI := v }
def State.setMem (s : State) (v : Memory) : State := { s with mem := v }
def State.setIrq (s : State) (v : Bool) : State := { s with irq := v }
def State.setNmiEarly (s : State) (v : Bool) : State := { s with nmiEarly := v }
def State.setHost (s : State) (v : List HostCall) : State := { s with host := v }
def State.setCycles (s : State) (v : Nat) : State := { s with cycles := v }

/-! ## Memory as a list in canonical form -/

/-- The canonical form from address `lo` up: addresses strictly rising and below 65536, no unlisted-value entry. -/
def Memory.wfFrom (lo : Nat) : Memory → Bool
  | [] => true
  | (k, v) :: m => decide (lo ≤ k) && decide (k < 65536) && v != Config.unlistedByte && Memory.wfFrom (k + 1) m

/-- The canonical form of memory: equal memories are equal lists. -/
def Memory.wf (m : Memory) : Bool := Memory.wfFrom 0 m

/-- The byte at an address. -/
def Memory.byteAt : Memory → Nat → Byte
  | [], _ => Config.unlistedByte
  | (k, v) :: m, a => if k = a then v else Memory.byteAt m a

/-- Stores a byte and keeps the canonical form: the unlisted value takes the entry out. -/
def Memory.store : Memory → Nat → Byte → Memory
  | [], a, v => if v = Config.unlistedByte then [] else [(a, v)]
  | (k, w) :: m, a, v =>
    if a < k then (if v = Config.unlistedByte then (k, w) :: m else (a, v) :: (k, w) :: m)
    else if a = k then (if v = Config.unlistedByte then m else (a, v) :: m)
    else (k, w) :: Memory.store m a v

/-! ## Memory access (R61, R62, R66, R67) -/

/-- `MemRead(addr, 1)` (R61): it never fails and has no side effect (R64). -/
def State.read (s : State) (addr : Word) : Byte := s.mem.byteAt addr.toNat

/-- `MemWrite(addr, 1, v)` (R62). -/
def State.write (s : State) (addr : Word) (v : Byte) : State := s.setMem (s.mem.store addr.toNat v)

/-- `Read16(a)` (R66): the high byte comes from `(a + 1) mod 2^16`. -/
def State.read16 (s : State) (a : Word) : Word := wordOf (s.read a) (s.read (a + 1#16))

/-- A page-zero address (R102): `zp` zero-extended to 16 bits. -/
def zeroPage (z : Byte) : Word := wordOf z 0x00#8

/-- `Read16ZP(z)` (R67): the high byte comes from `(z + 1) mod 2^8`, in page zero. -/
def State.read16ZP (s : State) (z : Byte) : Word := wordOf (s.read (zeroPage z)) (s.read (zeroPage (z + 1#8)))

/-! ## The stack (R24, R75, R76) -/

/-- `0x0100 + S`: the stack byte that S selects (R24). -/
def stackAddr (sp : Byte) : Word := wordOf sp 0x01#8

/-- `Push(v)` (R75): writes, then decrements S modulo 2^8. -/
def State.push (s : State) (v : Byte) : State := (s.write (stackAddr s.sp) v).setSp (s.sp - 1#8)

/-- `Pull()` (R76): increments S modulo 2^8, then reads; the byte and the state after it. -/
def State.pull (s : State) : Byte × State := (s.read (stackAddr (s.sp + 1#8)), s.setSp (s.sp + 1#8))

/-! ## The status byte (R35, R38) -/

/-- `PackP(b)` (R35): the byte image of the flags, bit 5 = 1 and bit 4 given by the pusher. -/
def packP (p : Flags) (b : Bool) : Byte :=
  BitVec.ofBool p.n ++ BitVec.ofBool p.v ++ 1#1 ++ BitVec.ofBool b
    ++ BitVec.ofBool p.d ++ BitVec.ofBool p.i ++ BitVec.ofBool p.z ++ BitVec.ofBool p.c

/-- `UnpackP(v)` (R38): bits 5 and 4 are discarded and the stored B is not written. -/
def unpackP (v : Byte) (p : Flags) : Flags :=
  { p with n := v.getLsbD 7, v := v.getLsbD 6, d := v.getLsbD 3, i := v.getLsbD 2, z := v.getLsbD 1, c := v.getLsbD 0 }

/-! ## Taking an interrupt, and returning from one (R405, R388, R389) -/

/-- `InterruptEntry(vec, b)` (R405): pushes PC, high byte first, and the status byte with B = `b`; sets I; loads PC from the
vector. IRQ and NMI use `b = 0`, BRK uses `b = 1`. -/
def State.interruptEntry (s : State) (vec : Word) (b : Bool) : State :=
  let pushed := ((s.push (hiByte s.pc)).push (loByte s.pc)).push (packP s.p b)
  let masked := pushed.setP { pushed.p with i := true }
  masked.setPc (masked.read16 vec)

/-- The vector that an IRQ entry or a BRK loads: an NMI request in its early part hijacks it (R407). -/
def State.irqOrHijackedVector (s : State) : Word := if s.nmiEarly then Config.nmiVector else Config.irqVector

/-- BRK's entry (R388): the return address skips the padding byte, and the pushed B is 1. -/
def State.softwareBreak (s : State) : State := (s.setPc (s.pc + 1#16)).interruptEntry s.irqOrHijackedVector true

/-- The return from an interrupt or BRK (R389, R410): the status byte, then PC, with no increment. -/
def State.returnFromInterrupt (s : State) : State :=
  let status := s.pull
  let lo := (status.2.setP (unpackP status.1 status.2.p)).pull
  let hi := lo.2.pull
  hi.2.setPc (wordOf lo.1 hi.1)

/-- `raise DecodeFault(addr, op)` (R409): PC back at the byte, the latch set, the core Halted; nothing else changes. -/
def State.raiseDecodeFault (s : State) (addr : Word) (op : Byte) : State :=
  ((s.setPc addr).setFault (some (.decodeFault addr op))).setRun .halted

end Sys2Proof.Machine
end

