-- ==== Sys2Proof/Machine/Operands.lean ====
section
/-! DEFINITION. The addressing-mode resolver (spec/30_encoding.md R108 to R124). The decoder has read the operand bytes and PC
holds the address of the next sequential instruction (R25), so a form resolves from PC, X, Y and memory. -/

namespace Sys2Proof.Machine

/-- The pointer read of the indirect jump (R119): the high byte comes from the pointer's own page. -/
def State.read16SamePage (s : State) (ptr : Word) : Word :=
  wordOf (s.read ptr) (s.read (wordOf (loByte ptr + 1#8) (hiByte ptr)))

end Sys2Proof.Machine

namespace Sys2Proof

open Machine

/-- The address an index is added to, in the modes that can cross a page; the next instruction's address for a branch (R123). -/
def AddrMode.base (m : AddrMode) (s : State) : Option Word :=
  match m with
  | .absX a | .absY a => some a
  | .indY z => some (s.read16ZP z)
  | .rel _ => some s.pc
  | .zp _ | .zpX _ | .zpY _ | .abs _ | .ind _ | .indX _ => none

/-- The effective address of each mode (R113 to R122). -/
def AddrMode.ea (m : AddrMode) (s : State) : Word :=
  match m with
  | .zp z => zeroPage z
  | .zpX z => zeroPage (z + s.x)
  | .zpY z => zeroPage (z + s.y)
  | .abs a => a
  | .absX a => a + s.x.zeroExtend 16
  | .absY a => a + s.y.zeroExtend 16
  | .ind ptr => s.read16SamePage ptr
  | .indX z => s.read16ZP (z + s.x)
  | .indY z => s.read16ZP z + s.y.zeroExtend 16
  | .rel r => s.pc + sext16 r

/-- `crossed` (R123): the base and the effective address lie in different pages. Only the cycle count reads it. -/
def AddrMode.crossed (m : AddrMode) (s : State) : Bool :=
  match m.base s with
  | some base => hiByte base != hiByte (m.ea s)
  | none => false

/-- `Operand()` at a location (R124). -/
def Loc.value (l : Loc) (s : State) : Byte :=
  match l with
  | .acc => s.a
  | .mem m => s.read (m.ea s)

/-- `StoreOperand(v)` at a location (R124); the effective address is that of the state the instruction starts in. -/
def Loc.put (l : Loc) (v : Byte) (s : State) : State :=
  match l with
  | .acc => s.setA v
  | .mem m => s.write (m.ea s) v

/-- `Operand()` (R124). -/
def Operand.value (o : Operand) (s : State) : Byte :=
  match o with
  | .imm v => v
  | .loc l => l.value s

end Sys2Proof
end

