-- ==== Sys2Proof/Machine/Flags.lean ====
section
/-! DEFINITION. The flag computations and the ALU (spec/10_state.md R36; 41_arithmetic.md R200 to R203; 42 R233; 43 R251 to R254;
45 R300). Each function of this file answers a result and its flags, or the flags alone; a flag it does not name keeps its value. -/

namespace Sys2Proof.Machine

/-- `SetNZ(v)` (R36). -/
def setNZ (p : Flags) (v : Byte) : Flags := { p with z := v == 0x00#8, n := v.getLsbD 7 }

/-- What the binary adder answers (R200). -/
structure AddResult where
  r : Byte
  cout : Bool
  vout : Bool
  deriving DecidableEq, Repr

/-- `AddBinary(a, m, cin)` (R200): the 9-bit sum, its carry out, and the sign-bit comparison. -/
def addBinary (a m : Byte) (cin : Bool) : AddResult :=
  let sum9 := a.zeroExtend 9 + m.zeroExtend 9 + (BitVec.ofBool cin).zeroExtend 9
  let r := sum9.extractLsb' 0 8
  { r := r, cout := sum9.getLsbD 8, vout := (~~~(a ^^^ m) &&& (a ^^^ r)).getLsbD 7 }

/-- The flags of a binary addition: N, V, Z and C (R204, R205). -/
def addFlags (p : Flags) (s : AddResult) : Flags := { setNZ p s.r with c := s.cout, v := s.vout }

/-- `AdcDecimal(a, m, c)` (R202): the accumulator and the flags. -/
def adcDecimal (a m : Byte) (p : Flags) : Byte × Flags :=
  let c := p.c.toNat
  let lo := (a &&& 0x0F#8).toNat + (m &&& 0x0F#8).toNat + c
  let lo := if lo ≥ 0x0A then ((lo + 0x06) &&& 0x0F) + 0x10 else lo
  let t := (a &&& 0xF0#8).toNat + (m &&& 0xF0#8).toNat + lo
  let ts : Int := (a &&& 0xF0#8).toInt + (m &&& 0xF0#8).toInt + lo
  let t' := if t ≥ 0xA0 then t + 0x60 else t
  (BitVec.ofNat 8 t',
   { p with
     n := (t % 256).testBit 7
     v := decide (ts < -128 ∨ ts > 127)
     c := decide (t' ≥ 0x100)
     z := decide ((a.toNat + m.toNat + c) % 256 = 0) })

/-- The accumulator after `SbcDecimal(a, m, c)` (R203); `&` on a negative integer is the remainder modulo 16. -/
def sbcDecimalResult (a m : Byte) (c : Bool) : Byte :=
  let lo : Int := (a &&& 0x0F#8).toNat - (m &&& 0x0F#8).toNat + c.toNat - 1
  let lo : Int := if lo < 0 then (lo - 0x06) % 0x10 - 0x10 else lo
  let t : Int := (a &&& 0xF0#8).toNat - (m &&& 0xF0#8).toNat + lo
  let t : Int := if t < 0 then t - 0x60 else t
  BitVec.ofInt 8 t

/-- `SbcDecimal(a, m, c)` (R203): only the accumulator is decimal; all four flags are those of the binary subtraction. -/
def sbcDecimal (a m : Byte) (p : Flags) : Byte × Flags :=
  (sbcDecimalResult a m p.c, addFlags p (addBinary a (~~~m) p.c))

/-- The binary ADC, and with `~m` for `m` the binary SBC (R204, R205): the accumulator and the flags. -/
def addWithCarry (a m : Byte) (p : Flags) : Byte × Flags :=
  let s := addBinary a m p.c
  (s.r, addFlags p s)

/-- `Compare(r, m)` (R300): an unsigned subtraction whose result is discarded. -/
def compareFlags (r m : Byte) (p : Flags) : Flags :=
  { p with c := decide (m.toNat ≤ r.toNat), z := r == m, n := (r - m).getLsbD 7 }

/-- BIT (R233): Z from `A & M`, N and V copied from the memory operand. -/
def bitFlags (a m : Byte) (p : Flags) : Flags :=
  { p with z := (a &&& m) == 0x00#8, n := m.getLsbD 7, v := m.getLsbD 6 }

/-! ## The one-bit shifts (R251 to R254): the value stored, and the flags N, Z, C -/

/-- ASL (R251). -/
def aslByte (m : Byte) (p : Flags) : Byte × Flags :=
  let v := m <<< 1
  (v, setNZ { p with c := m.getLsbD 7 } v)

/-- LSR (R252). -/
def lsrByte (m : Byte) (p : Flags) : Byte × Flags :=
  let v := m >>> 1
  (v, setNZ { p with c := m.getLsbD 0 } v)

/-- ROL (R253). -/
def rolByte (m : Byte) (p : Flags) : Byte × Flags :=
  let v := (m <<< 1) ||| (BitVec.ofBool p.c).zeroExtend 8
  (v, setNZ { p with c := m.getLsbD 7 } v)

/-- ROR (R254). -/
def rorByte (m : Byte) (p : Flags) : Byte × Flags :=
  let v := (m >>> 1) ||| ((BitVec.ofBool p.c).zeroExtend 8 <<< 7)
  (v, setNZ { p with c := m.getLsbD 0 } v)

/-- INC (R206): C and V are untouched. -/
def incByte (m : Byte) (p : Flags) : Byte × Flags := (m + 1, setNZ p (m + 1))

/-- DEC (R207). -/
def decByte (m : Byte) (p : Flags) : Byte × Flags := (m - 1, setNZ p (m - 1))

end Sys2Proof.Machine
end

