-- ==== Sys2Proof/Machine/Arithmetic.lean ====
section
/-! DEFINITION. The arithmetic instructions ADC, SBC, INC, DEC, INX, INY, DEX, DEY (spec/41_arithmetic.md R201 to R211).
A meaning starts after the fetch: PC holds the address of the next instruction, and the operand bytes are its own (R13, R25). -/

namespace Sys2Proof.Machine

/-- Whether ADC and SBC take their decimal definitions: `D = 1` and `DECIMAL_MODE = NmosBcd` (R201, R204, R205). -/
def State.decimal (s : State) : Bool := s.p.d && s.decimalMode == .nmosBcd

/-- ADC (R204). -/
def adc (o : Operand) (s : State) : State :=
  let m := o.value s
  let r := if s.decimal then adcDecimal s.a m s.p else addWithCarry s.a m s.p
  (s.setA r.1).setP r.2

/-- SBC (R205). -/
def sbc (o : Operand) (s : State) : State :=
  let m := o.value s
  let r := if s.decimal then sbcDecimal s.a m s.p else addWithCarry s.a (~~~m) s.p
  (s.setA r.1).setP r.2

/-- A read-modify-write instruction: reads its operand once, computes, and writes it back once (R124, R206, R207, R250). -/
def readModifyWrite (f : Byte → Flags → Byte × Flags) (l : Loc) (s : State) : State :=
  let r := f (l.value s) s.p
  (l.put r.1 s).setP r.2

/-- R204: `ADC ($nn,X)` (0x61). -/
def execAdcIndX (z : Byte) (s : State) : Result := .next (adc (.loc (.mem (.indX z))) s)

/-- R204: `ADC $nn` (0x65). -/
def execAdcZp (z : Byte) (s : State) : Result := .next (adc (.loc (.mem (.zp z))) s)

/-- R204: `ADC #$nn` (0x69). -/
def execAdcImm (v : Byte) (s : State) : Result := .next (adc (.imm v) s)

/-- R204: `ADC $hhll` (0x6D). -/
def execAdcAbs (a : Word) (s : State) : Result := .next (adc (.loc (.mem (.abs a))) s)

/-- R204: `ADC ($nn),Y` (0x71). -/
def execAdcIndY (z : Byte) (s : State) : Result := .next (adc (.loc (.mem (.indY z))) s)

/-- R204: `ADC $nn,X` (0x75). -/
def execAdcZpX (z : Byte) (s : State) : Result := .next (adc (.loc (.mem (.zpX z))) s)

/-- R204: `ADC $hhll,Y` (0x79). -/
def execAdcAbsY (a : Word) (s : State) : Result := .next (adc (.loc (.mem (.absY a))) s)

/-- R204: `ADC $hhll,X` (0x7D). -/
def execAdcAbsX (a : Word) (s : State) : Result := .next (adc (.loc (.mem (.absX a))) s)

/-- R205: `SBC ($nn,X)` (0xE1). -/
def execSbcIndX (z : Byte) (s : State) : Result := .next (sbc (.loc (.mem (.indX z))) s)

/-- R205: `SBC $nn` (0xE5). -/
def execSbcZp (z : Byte) (s : State) : Result := .next (sbc (.loc (.mem (.zp z))) s)

/-- R205: `SBC #$nn` (0xE9). -/
def execSbcImm (v : Byte) (s : State) : Result := .next (sbc (.imm v) s)

/-- R205: `SBC $hhll` (0xED). -/
def execSbcAbs (a : Word) (s : State) : Result := .next (sbc (.loc (.mem (.abs a))) s)

/-- R205: `SBC ($nn),Y` (0xF1). -/
def execSbcIndY (z : Byte) (s : State) : Result := .next (sbc (.loc (.mem (.indY z))) s)

/-- R205: `SBC $nn,X` (0xF5). -/
def execSbcZpX (z : Byte) (s : State) : Result := .next (sbc (.loc (.mem (.zpX z))) s)

/-- R205: `SBC $hhll,Y` (0xF9). -/
def execSbcAbsY (a : Word) (s : State) : Result := .next (sbc (.loc (.mem (.absY a))) s)

/-- R205: `SBC $hhll,X` (0xFD). -/
def execSbcAbsX (a : Word) (s : State) : Result := .next (sbc (.loc (.mem (.absX a))) s)

/-- R206: `INC $nn` (0xE6). -/
def execIncZp (z : Byte) (s : State) : Result := .next (readModifyWrite incByte (.mem (.zp z)) s)

/-- R206: `INC $hhll` (0xEE). -/
def execIncAbs (a : Word) (s : State) : Result := .next (readModifyWrite incByte (.mem (.abs a)) s)

/-- R206: `INC $nn,X` (0xF6). -/
def execIncZpX (z : Byte) (s : State) : Result := .next (readModifyWrite incByte (.mem (.zpX z)) s)

/-- R206: `INC $hhll,X` (0xFE). -/
def execIncAbsX (a : Word) (s : State) : Result := .next (readModifyWrite incByte (.mem (.absX a)) s)

/-- R207: `DEC $nn` (0xC6). -/
def execDecZp (z : Byte) (s : State) : Result := .next (readModifyWrite decByte (.mem (.zp z)) s)

/-- R207: `DEC $hhll` (0xCE). -/
def execDecAbs (a : Word) (s : State) : Result := .next (readModifyWrite decByte (.mem (.abs a)) s)

/-- R207: `DEC $nn,X` (0xD6). -/
def execDecZpX (z : Byte) (s : State) : Result := .next (readModifyWrite decByte (.mem (.zpX z)) s)

/-- R207: `DEC $hhll,X` (0xDE). -/
def execDecAbsX (a : Word) (s : State) : Result := .next (readModifyWrite decByte (.mem (.absX a)) s)

/-- R208: `INX` (0xE8). -/
def execInx (s : State) : Result := .next ((s.setX (s.x + 1#8)).setP (setNZ s.p (s.x + 1#8)))

/-- R209: `INY` (0xC8). -/
def execIny (s : State) : Result := .next ((s.setY (s.y + 1#8)).setP (setNZ s.p (s.y + 1#8)))

/-- R210: `DEX` (0xCA). -/
def execDex (s : State) : Result := .next ((s.setX (s.x - 1#8)).setP (setNZ s.p (s.x - 1#8)))

/-- R211: `DEY` (0x88). -/
def execDey (s : State) : Result := .next ((s.setY (s.y - 1#8)).setP (setNZ s.p (s.y - 1#8)))

end Sys2Proof.Machine
end

