-- ==== Sys2Proof/Machine/Branch.lean ====
section
/-! DEFINITION. The conditional branches (spec/46_branch.md R320 to R328).
A meaning starts after the fetch: PC holds the address of the next instruction, and the operand bytes are its own (R13, R25). -/

namespace Sys2Proof.Machine

/-- The conditions of the eight branches (R321 to R328). -/
inductive Condition where
  | plus | minus | overflowClear | overflowSet | carryClear | carrySet | notEqual | equal
  deriving DecidableEq, Repr

/-- Whether a condition holds in the flags. -/
def Condition.holds : Condition → Flags → Bool
  | .plus, p => !p.n
  | .minus, p => p.n
  | .overflowClear, p => !p.v
  | .overflowSet, p => p.v
  | .carryClear, p => !p.c
  | .carrySet, p => p.c
  | .notEqual, p => !p.z
  | .equal, p => p.z

/-- `Branch(cond)` (R320): PC takes the target when the condition holds, else it stays at the next instruction. -/
def branch (cond : Condition) (r : Byte) (s : State) : State :=
  s.setPc (if cond.holds s.p then (AddrMode.rel r).ea s else s.pc)

/-- R321: `BPL $target` (0x10). -/
def execBpl (r : Byte) (s : State) : Result := .next (branch .plus r s)

/-- R322: `BMI $target` (0x30). -/
def execBmi (r : Byte) (s : State) : Result := .next (branch .minus r s)

/-- R323: `BVC $target` (0x50). -/
def execBvc (r : Byte) (s : State) : Result := .next (branch .overflowClear r s)

/-- R324: `BVS $target` (0x70). -/
def execBvs (r : Byte) (s : State) : Result := .next (branch .overflowSet r s)

/-- R325: `BCC $target` (0x90). -/
def execBcc (r : Byte) (s : State) : Result := .next (branch .carryClear r s)

/-- R326: `BCS $target` (0xB0). -/
def execBcs (r : Byte) (s : State) : Result := .next (branch .carrySet r s)

/-- R327: `BNE $target` (0xD0). -/
def execBne (r : Byte) (s : State) : Result := .next (branch .notEqual r s)

/-- R328: `BEQ $target` (0xF0). -/
def execBeq (r : Byte) (s : State) : Result := .next (branch .equal r s)

end Sys2Proof.Machine
end

