-- ==== Sys2Proof/Machine/Compare.lean ====
section
/-! DEFINITION. The compare instructions CMP, CPX, CPY (spec/45_compare.md R300 to R303).
A meaning starts after the fetch: PC holds the address of the next instruction, and the operand bytes are its own (R13, R25). -/

namespace Sys2Proof.Machine

/-- A compare of a register's value with the operand (R300): flags only. -/
def compareWith (r : Byte) (o : Operand) (s : State) : State := s.setP (compareFlags r (o.value s) s.p)

/-- R301: `CMP ($nn,X)` (0xC1). -/
def execCmpIndX (z : Byte) (s : State) : Result := .next (compareWith s.a (.loc (.mem (.indX z))) s)

/-- R301: `CMP $nn` (0xC5). -/
def execCmpZp (z : Byte) (s : State) : Result := .next (compareWith s.a (.loc (.mem (.zp z))) s)

/-- R301: `CMP #$nn` (0xC9). -/
def execCmpImm (v : Byte) (s : State) : Result := .next (compareWith s.a (.imm v) s)

/-- R301: `CMP $hhll` (0xCD). -/
def execCmpAbs (a : Word) (s : State) : Result := .next (compareWith s.a (.loc (.mem (.abs a))) s)

/-- R301: `CMP ($nn),Y` (0xD1). -/
def execCmpIndY (z : Byte) (s : State) : Result := .next (compareWith s.a (.loc (.mem (.indY z))) s)

/-- R301: `CMP $nn,X` (0xD5). -/
def execCmpZpX (z : Byte) (s : State) : Result := .next (compareWith s.a (.loc (.mem (.zpX z))) s)

/-- R301: `CMP $hhll,Y` (0xD9). -/
def execCmpAbsY (a : Word) (s : State) : Result := .next (compareWith s.a (.loc (.mem (.absY a))) s)

/-- R301: `CMP $hhll,X` (0xDD). -/
def execCmpAbsX (a : Word) (s : State) : Result := .next (compareWith s.a (.loc (.mem (.absX a))) s)

/-- R302: `CPX #$nn` (0xE0). -/
def execCpxImm (v : Byte) (s : State) : Result := .next (compareWith s.x (.imm v) s)

/-- R302: `CPX $nn` (0xE4). -/
def execCpxZp (z : Byte) (s : State) : Result := .next (compareWith s.x (.loc (.mem (.zp z))) s)

/-- R302: `CPX $hhll` (0xEC). -/
def execCpxAbs (a : Word) (s : State) : Result := .next (compareWith s.x (.loc (.mem (.abs a))) s)

/-- R303: `CPY #$nn` (0xC0). -/
def execCpyImm (v : Byte) (s : State) : Result := .next (compareWith s.y (.imm v) s)

/-- R303: `CPY $nn` (0xC4). -/
def execCpyZp (z : Byte) (s : State) : Result := .next (compareWith s.y (.loc (.mem (.zp z))) s)

/-- R303: `CPY $hhll` (0xCC). -/
def execCpyAbs (a : Word) (s : State) : Result := .next (compareWith s.y (.loc (.mem (.abs a))) s)

end Sys2Proof.Machine
end

