-- ==== Sys2Proof/Machine/FlagsBreak.lean ====
section
/-! DEFINITION. The flag instructions, NOP, BRK and RTI (spec/49_flags_break.md R380 to R389).
A meaning starts after the fetch: PC holds the address of the next instruction, and the operand bytes are its own (R13, R25). -/

namespace Sys2Proof.Machine

/-- R380: `CLC` (0x18). -/
def execClc (s : State) : Result := .next (s.setP { s.p with c := false })

/-- R381: `SEC` (0x38). -/
def execSec (s : State) : Result := .next (s.setP { s.p with c := true })

/-- R382: `CLI` (0x58). -/
def execCli (s : State) : Result := .next (s.setP { s.p with i := false })

/-- R383: `SEI` (0x78). -/
def execSei (s : State) : Result := .next (s.setP { s.p with i := true })

/-- R384: `CLD` (0xD8). -/
def execCld (s : State) : Result := .next (s.setP { s.p with d := false })

/-- R385: `SED` (0xF8). -/
def execSed (s : State) : Result := .next (s.setP { s.p with d := true })

/-- R386: `CLV` (0xB8). -/
def execClv (s : State) : Result := .next (s.setP { s.p with v := false })

/-- R387: `NOP` (0xEA). -/
def execNop (s : State) : Result := .next s

/-- R388: `BRK` (0x00). -/
def execBrk (s : State) : Result := .next s.softwareBreak

/-- R389: `RTI` (0x40). -/
def execRti (s : State) : Result := .next s.returnFromInterrupt

end Sys2Proof.Machine
end

