-- ==== Sys2Proof/Machine/Jump.lean ====
section
/-! DEFINITION. JMP, JSR and RTS (spec/48_jump_subroutine.md R360 to R362).
A meaning starts after the fetch: PC holds the address of the next instruction, and the operand bytes are its own (R13, R25). -/

namespace Sys2Proof.Machine

/-- JMP (R360). -/
def jump (m : AddrMode) (s : State) : State := s.setPc (m.ea s)

/-- JSR (R361): pushes the address of its own last byte, high byte first. -/
def callSubroutine (m : AddrMode) (s : State) : State :=
  let ret := s.pc - 1#16
  ((s.push (hiByte ret)).push (loByte ret)).setPc (m.ea s)

/-- RTS (R362): pulls the address, low byte first, and adds one. -/
def returnFromSubroutine (s : State) : State :=
  let lo := s.pull
  let hi := lo.2.pull
  hi.2.setPc (wordOf lo.1 hi.1 + 1#16)

/-- R360: `JMP $hhll` (0x4C). -/
def execJmpAbs (a : Word) (s : State) : Result := .next (jump (.abs a) s)

/-- R360: `JMP ($hhll)` (0x6C). -/
def execJmpInd (ptr : Word) (s : State) : Result := .next (jump (.ind ptr) s)

/-- R361: `JSR $hhll` (0x20). -/
def execJsrAbs (a : Word) (s : State) : Result := .next (callSubroutine (.abs a) s)

/-- R362: `RTS` (0x60). -/
def execRts (s : State) : Result := .next (returnFromSubroutine s)

end Sys2Proof.Machine
end

