-- ==== Sys2Proof/Machine/Logical.lean ====
section
/-! DEFINITION. The logical instructions AND, ORA, EOR, BIT (spec/42_logical.md R230 to R233).
A meaning starts after the fetch: PC holds the address of the next instruction, and the operand bytes are its own (R13, R25). -/

namespace Sys2Proof.Machine

/-- `A <- v; SetNZ(A)`: the tail that the logical instructions, LDA, PLA, TXA and TYA share. -/
def resultToA (v : Byte) (s : State) : State := (s.setA v).setP (setNZ s.p v)

/-- BIT (R233): flags only. -/
def bitTest (o : Operand) (s : State) : State := s.setP (bitFlags s.a (o.value s) s.p)

/-- R230: `AND ($nn,X)` (0x21). -/
def execAndIndX (z : Byte) (s : State) : Result := .next (resultToA (s.a &&& Operand.value (.loc (.mem (.indX z))) s) s)

/-- R230: `AND $nn` (0x25). -/
def execAndZp (z : Byte) (s : State) : Result := .next (resultToA (s.a &&& Operand.value (.loc (.mem (.zp z))) s) s)

/-- R230: `AND #$nn` (0x29). -/
def execAndImm (v : Byte) (s : State) : Result := .next (resultToA (s.a &&& Operand.value (.imm v) s) s)

/-- R230: `AND $hhll` (0x2D). -/
def execAndAbs (a : Word) (s : State) : Result := .next (resultToA (s.a &&& Operand.value (.loc (.mem (.abs a))) s) s)

/-- R230: `AND ($nn),Y` (0x31). -/
def execAndIndY (z : Byte) (s : State) : Result := .next (resultToA (s.a &&& Operand.value (.loc (.mem (.indY z))) s) s)

/-- R230: `AND $nn,X` (0x35). -/
def execAndZpX (z : Byte) (s : State) : Result := .next (resultToA (s.a &&& Operand.value (.loc (.mem (.zpX z))) s) s)

/-- R230: `AND $hhll,Y` (0x39). -/
def execAndAbsY (a : Word) (s : State) : Result := .next (resultToA (s.a &&& Operand.value (.loc (.mem (.absY a))) s) s)

/-- R230: `AND $hhll,X` (0x3D). -/
def execAndAbsX (a : Word) (s : State) : Result := .next (resultToA (s.a &&& Operand.value (.loc (.mem (.absX a))) s) s)

/-- R231: `ORA ($nn,X)` (0x01). -/
def execOraIndX (z : Byte) (s : State) : Result := .next (resultToA (s.a ||| Operand.value (.loc (.mem (.indX z))) s) s)

/-- R231: `ORA $nn` (0x05). -/
def execOraZp (z : Byte) (s : State) : Result := .next (resultToA (s.a ||| Operand.value (.loc (.mem (.zp z))) s) s)

/-- R231: `ORA #$nn` (0x09). -/
def execOraImm (v : Byte) (s : State) : Result := .next (resultToA (s.a ||| Operand.value (.imm v) s) s)

/-- R231: `ORA $hhll` (0x0D). -/
def execOraAbs (a : Word) (s : State) : Result := .next (resultToA (s.a ||| Operand.value (.loc (.mem (.abs a))) s) s)

/-- R231: `ORA ($nn),Y` (0x11). -/
def execOraIndY (z : Byte) (s : State) : Result := .next (resultToA (s.a ||| Operand.value (.loc (.mem (.indY z))) s) s)

/-- R231: `ORA $nn,X` (0x15). -/
def execOraZpX (z : Byte) (s : State) : Result := .next (resultToA (s.a ||| Operand.value (.loc (.mem (.zpX z))) s) s)

/-- R231: `ORA $hhll,Y` (0x19). -/
def execOraAbsY (a : Word) (s : State) : Result := .next (resultToA (s.a ||| Operand.value (.loc (.mem (.absY a))) s) s)

/-- R231: `ORA $hhll,X` (0x1D). -/
def execOraAbsX (a : Word) (s : State) : Result := .next (resultToA (s.a ||| Operand.value (.loc (.mem (.absX a))) s) s)

/-- R232: `EOR ($nn,X)` (0x41). -/
def execEorIndX (z : Byte) (s : State) : Result := .next (resultToA (s.a ^^^ Operand.value (.loc (.mem (.indX z))) s) s)

/-- R232: `EOR $nn` (0x45). -/
def execEorZp (z : Byte) (s : State) : Result := .next (resultToA (s.a ^^^ Operand.value (.loc (.mem (.zp z))) s) s)

/-- R232: `EOR #$nn` (0x49). -/
def execEorImm (v : Byte) (s : State) : Result := .next (resultToA (s.a ^^^ Operand.value (.imm v) s) s)

/-- R232: `EOR $hhll` (0x4D). -/
def execEorAbs (a : Word) (s : State) : Result := .next (resultToA (s.a ^^^ Operand.value (.loc (.mem (.abs a))) s) s)

/-- R232: `EOR ($nn),Y` (0x51). -/
def execEorIndY (z : Byte) (s : State) : Result := .next (resultToA (s.a ^^^ Operand.value (.loc (.mem (.indY z))) s) s)

/-- R232: `EOR $nn,X` (0x55). -/
def execEorZpX (z : Byte) (s : State) : Result := .next (resultToA (s.a ^^^ Operand.value (.loc (.mem (.zpX z))) s) s)

/-- R232: `EOR $hhll,Y` (0x59). -/
def execEorAbsY (a : Word) (s : State) : Result := .next (resultToA (s.a ^^^ Operand.value (.loc (.mem (.absY a))) s) s)

/-- R232: `EOR $hhll,X` (0x5D). -/
def execEorAbsX (a : Word) (s : State) : Result := .next (resultToA (s.a ^^^ Operand.value (.loc (.mem (.absX a))) s) s)

/-- R233: `BIT $nn` (0x24). -/
def execBitZp (z : Byte) (s : State) : Result := .next (bitTest (.loc (.mem (.zp z))) s)

/-- R233: `BIT $hhll` (0x2C). -/
def execBitAbs (a : Word) (s : State) : Result := .next (bitTest (.loc (.mem (.abs a))) s)

end Sys2Proof.Machine
end

