-- ==== Sys2Proof/Machine/LoadStore.lean ====
section
/-! DEFINITION. The loads, stores and register transfers (spec/44_load_store_transfer.md R270 to R281).
A meaning starts after the fetch: PC holds the address of the next instruction, and the operand bytes are its own (R13, R25). -/

namespace Sys2Proof.Machine

/-- `X <- v; SetNZ(X)` (R271, R276, R280). -/
def resultToX (v : Byte) (s : State) : State := (s.setX v).setP (setNZ s.p v)

/-- `Y <- v; SetNZ(Y)` (R272, R277). -/
def resultToY (v : Byte) (s : State) : State := (s.setY v).setP (setNZ s.p v)

/-- `StoreOperand(v)` of a store instruction (R273 to R275): no flag. -/
def storeByte (v : Byte) (m : AddrMode) (s : State) : State := s.write (m.ea s) v

/-- R270: `LDA ($nn,X)` (0xA1). -/
def execLdaIndX (z : Byte) (s : State) : Result := .next (resultToA (Operand.value (.loc (.mem (.indX z))) s) s)

/-- R270: `LDA $nn` (0xA5). -/
def execLdaZp (z : Byte) (s : State) : Result := .next (resultToA (Operand.value (.loc (.mem (.zp z))) s) s)

/-- R270: `LDA #$nn` (0xA9). -/
def execLdaImm (v : Byte) (s : State) : Result := .next (resultToA (Operand.value (.imm v) s) s)

/-- R270: `LDA $hhll` (0xAD). -/
def execLdaAbs (a : Word) (s : State) : Result := .next (resultToA (Operand.value (.loc (.mem (.abs a))) s) s)

/-- R270: `LDA ($nn),Y` (0xB1). -/
def execLdaIndY (z : Byte) (s : State) : Result := .next (resultToA (Operand.value (.loc (.mem (.indY z))) s) s)

/-- R270: `LDA $nn,X` (0xB5). -/
def execLdaZpX (z : Byte) (s : State) : Result := .next (resultToA (Operand.value (.loc (.mem (.zpX z))) s) s)

/-- R270: `LDA $hhll,Y` (0xB9). -/
def execLdaAbsY (a : Word) (s : State) : Result := .next (resultToA (Operand.value (.loc (.mem (.absY a))) s) s)

/-- R270: `LDA $hhll,X` (0xBD). -/
def execLdaAbsX (a : Word) (s : State) : Result := .next (resultToA (Operand.value (.loc (.mem (.absX a))) s) s)

/-- R271: `LDX #$nn` (0xA2). -/
def execLdxImm (v : Byte) (s : State) : Result := .next (resultToX (Operand.value (.imm v) s) s)

/-- R271: `LDX $nn` (0xA6). -/
def execLdxZp (z : Byte) (s : State) : Result := .next (resultToX (Operand.value (.loc (.mem (.zp z))) s) s)

/-- R271: `LDX $hhll` (0xAE). -/
def execLdxAbs (a : Word) (s : State) : Result := .next (resultToX (Operand.value (.loc (.mem (.abs a))) s) s)

/-- R271: `LDX $nn,Y` (0xB6). -/
def execLdxZpY (z : Byte) (s : State) : Result := .next (resultToX (Operand.value (.loc (.mem (.zpY z))) s) s)

/-- R271: `LDX $hhll,Y` (0xBE). -/
def execLdxAbsY (a : Word) (s : State) : Result := .next (resultToX (Operand.value (.loc (.mem (.absY a))) s) s)

/-- R272: `LDY #$nn` (0xA0). -/
def execLdyImm (v : Byte) (s : State) : Result := .next (resultToY (Operand.value (.imm v) s) s)

/-- R272: `LDY $nn` (0xA4). -/
def execLdyZp (z : Byte) (s : State) : Result := .next (resultToY (Operand.value (.loc (.mem (.zp z))) s) s)

/-- R272: `LDY $hhll` (0xAC). -/
def execLdyAbs (a : Word) (s : State) : Result := .next (resultToY (Operand.value (.loc (.mem (.abs a))) s) s)

/-- R272: `LDY $nn,X` (0xB4). -/
def execLdyZpX (z : Byte) (s : State) : Result := .next (resultToY (Operand.value (.loc (.mem (.zpX z))) s) s)

/-- R272: `LDY $hhll,X` (0xBC). -/
def execLdyAbsX (a : Word) (s : State) : Result := .next (resultToY (Operand.value (.loc (.mem (.absX a))) s) s)

/-- R273: `STA ($nn,X)` (0x81). -/
def execStaIndX (z : Byte) (s : State) : Result := .next (storeByte s.a (.indX z) s)

/-- R273: `STA $nn` (0x85). -/
def execStaZp (z : Byte) (s : State) : Result := .next (storeByte s.a (.zp z) s)

/-- R273: `STA $hhll` (0x8D). -/
def execStaAbs (a : Word) (s : State) : Result := .next (storeByte s.a (.abs a) s)

/-- R273: `STA ($nn),Y` (0x91). -/
def execStaIndY (z : Byte) (s : State) : Result := .next (storeByte s.a (.indY z) s)

/-- R273: `STA $nn,X` (0x95). -/
def execStaZpX (z : Byte) (s : State) : Result := .next (storeByte s.a (.zpX z) s)

/-- R273: `STA $hhll,Y` (0x99). -/
def execStaAbsY (a : Word) (s : State) : Result := .next (storeByte s.a (.absY a) s)

/-- R273: `STA $hhll,X` (0x9D). -/
def execStaAbsX (a : Word) (s : State) : Result := .next (storeByte s.a (.absX a) s)

/-- R274: `STX $nn` (0x86). -/
def execStxZp (z : Byte) (s : State) : Result := .next (storeByte s.x (.zp z) s)

/-- R274: `STX $hhll` (0x8E). -/
def execStxAbs (a : Word) (s : State) : Result := .next (storeByte s.x (.abs a) s)

/-- R274: `STX $nn,Y` (0x96). -/
def execStxZpY (z : Byte) (s : State) : Result := .next (storeByte s.x (.zpY z) s)

/-- R275: `STY $nn` (0x84). -/
def execStyZp (z : Byte) (s : State) : Result := .next (storeByte s.y (.zp z) s)

/-- R275: `STY $hhll` (0x8C). -/
def execStyAbs (a : Word) (s : State) : Result := .next (storeByte s.y (.abs a) s)

/-- R275: `STY $nn,X` (0x94). -/
def execStyZpX (z : Byte) (s : State) : Result := .next (storeByte s.y (.zpX z) s)

/-- R276: `TAX` (0xAA). -/
def execTax (s : State) : Result := .next (resultToX s.a s)

/-- R277: `TAY` (0xA8). -/
def execTay (s : State) : Result := .next (resultToY s.a s)

/-- R278: `TXA` (0x8A). -/
def execTxa (s : State) : Result := .next (resultToA s.x s)

/-- R279: `TYA` (0x98). -/
def execTya (s : State) : Result := .next (resultToA s.y s)

/-- R280: `TSX` (0xBA). -/
def execTsx (s : State) : Result := .next (resultToX s.sp s)

/-- R281: `TXS` (0x9A). -/
def execTxs (s : State) : Result := .next (s.setSp s.x)

end Sys2Proof.Machine
end

