-- ==== Sys2Proof/Machine/ShiftRotate.lean ====
section
/-! DEFINITION. The shifts and rotates ASL, LSR, ROL, ROR, on A or on memory (spec/43_shift_rotate.md R250 to R254).
A meaning starts after the fetch: PC holds the address of the next instruction, and the operand bytes are its own (R13, R25). -/

namespace Sys2Proof.Machine

/-- R251: `ASL $nn` (0x06). -/
def execAslZp (z : Byte) (s : State) : Result := .next (readModifyWrite aslByte (.mem (.zp z)) s)

/-- R251: `ASL A` (0x0A). -/
def execAslA (s : State) : Result := .next (readModifyWrite aslByte .acc s)

/-- R251: `ASL $hhll` (0x0E). -/
def execAslAbs (a : Word) (s : State) : Result := .next (readModifyWrite aslByte (.mem (.abs a)) s)

/-- R251: `ASL $nn,X` (0x16). -/
def execAslZpX (z : Byte) (s : State) : Result := .next (readModifyWrite aslByte (.mem (.zpX z)) s)

/-- R251: `ASL $hhll,X` (0x1E). -/
def execAslAbsX (a : Word) (s : State) : Result := .next (readModifyWrite aslByte (.mem (.absX a)) s)

/-- R252: `LSR $nn` (0x46). -/
def execLsrZp (z : Byte) (s : State) : Result := .next (readModifyWrite lsrByte (.mem (.zp z)) s)

/-- R252: `LSR A` (0x4A). -/
def execLsrA (s : State) : Result := .next (readModifyWrite lsrByte .acc s)

/-- R252: `LSR $hhll` (0x4E). -/
def execLsrAbs (a : Word) (s : State) : Result := .next (readModifyWrite lsrByte (.mem (.abs a)) s)

/-- R252: `LSR $nn,X` (0x56). -/
def execLsrZpX (z : Byte) (s : State) : Result := .next (readModifyWrite lsrByte (.mem (.zpX z)) s)

/-- R252: `LSR $hhll,X` (0x5E). -/
def execLsrAbsX (a : Word) (s : State) : Result := .next (readModifyWrite lsrByte (.mem (.absX a)) s)

/-- R253: `ROL $nn` (0x26). -/
def execRolZp (z : Byte) (s : State) : Result := .next (readModifyWrite rolByte (.mem (.zp z)) s)

/-- R253: `ROL A` (0x2A). -/
def execRolA (s : State) : Result := .next (readModifyWrite rolByte .acc s)

/-- R253: `ROL $hhll` (0x2E). -/
def execRolAbs (a : Word) (s : State) : Result := .next (readModifyWrite rolByte (.mem (.abs a)) s)

/-- R253: `ROL $nn,X` (0x36). -/
def execRolZpX (z : Byte) (s : State) : Result := .next (readModifyWrite rolByte (.mem (.zpX z)) s)

/-- R253: `ROL $hhll,X` (0x3E). -/
def execRolAbsX (a : Word) (s : State) : Result := .next (readModifyWrite rolByte (.mem (.absX a)) s)

/-- R254: `ROR $nn` (0x66). -/
def execRorZp (z : Byte) (s : State) : Result := .next (readModifyWrite rorByte (.mem (.zp z)) s)

/-- R254: `ROR A` (0x6A). -/
def execRorA (s : State) : Result := .next (readModifyWrite rorByte .acc s)

/-- R254: `ROR $hhll` (0x6E). -/
def execRorAbs (a : Word) (s : State) : Result := .next (readModifyWrite rorByte (.mem (.abs a)) s)

/-- R254: `ROR $nn,X` (0x76). -/
def execRorZpX (z : Byte) (s : State) : Result := .next (readModifyWrite rorByte (.mem (.zpX z)) s)

/-- R254: `ROR $hhll,X` (0x7E). -/
def execRorAbsX (a : Word) (s : State) : Result := .next (readModifyWrite rorByte (.mem (.absX a)) s)

end Sys2Proof.Machine
end

