-- ==== Sys2Proof/Machine/Stack.lean ====
section
/-! DEFINITION. The stack instructions PHA, PHP, PLA, PLP (spec/47_stack.md R340 to R343).
A meaning starts after the fetch: PC holds the address of the next instruction, and the operand bytes are its own (R13, R25). -/

namespace Sys2Proof.Machine

/-- R340: `PHA` (0x48). -/
def execPha (s : State) : Result := .next (s.push s.a)

/-- R341: `PHP` (0x08). -/
def execPhp (s : State) : Result := .next (s.push (packP s.p true))

/-- R342: `PLA` (0x68). -/
def execPla (s : State) : Result := .next (resultToA s.pull.1 s.pull.2)

/-- R343: `PLP` (0x28). -/
def execPlp (s : State) : Result := .next (s.pull.2.setP (unpackP s.pull.1 s.p))

end Sys2Proof.Machine
end

