-- ==== Sys2Proof/Machine/HostOps.lean ====
section
/-! DEFINITION. What the host can do to a core beside stepping it (spec/60_exceptions.md R418): new(), loading memory, reset(),
halt_resume() and the snapshot. An NMI request and a change of the IRQ level are `State.setNmiPending` and `State.setIrq`. -/

namespace Sys2Proof.Machine

/-- `new(memory)` (R44): Running at 0x0000, the registers drawn, `pollI` the drawn I. The parameter `DECIMAL_MODE` is an
argument (R9), and so is the memory the core is bound to (R72). R44 gives no level to the inputs `irq` and `nmiEarly`, which R42
leaves to the host: both are 0 here (DESIGN CHOICE, log 8). The schedule is empty and no count is returned yet (log 7, log 9). -/
def State.new (mode : DecimalMode) (mem : Memory) (draw : NewDraw) : State where
  a := draw.a
  x := draw.x
  y := draw.y
  sp := draw.sp
  pc := 0x0000#16
  p := ⟨draw.n, draw.v, false, draw.d, draw.i, draw.z, draw.c⟩
  run := .running
  fault := none
  nmiPending := false
  pollI := draw.i
  mem := mem
  decimalMode := mode
  irq := false
  nmiEarly := false
  host := []
  cycles := 0

/-- The loader (R72, R73, R418): stores bytes at increasing addresses, modulo 2^16. -/
def State.load (s : State) (addr : Word) : List Byte → State
  | [] => s
  | b :: bs => (s.write addr b).load (addr + 1#16) bs

/-- `reset()` (R500) with the values it draws: writes no memory, and leaves the host's inputs and the last cycle count. -/
def State.resetWith (s : State) (draw : ResetDraw) : State :=
  { s with
    pc := s.read16 Config.resetVector
    sp := Config.resetSp
    a := draw.a
    x := draw.x
    y := draw.y
    p := ⟨draw.n, draw.v, false, draw.d, true, draw.z, draw.c⟩
    run := .running
    fault := none
    nmiPending := false
    pollI := true }

/-- `halt_resume()` (R37, R417): toggles Running and Halted, and changes no other state. -/
def State.haltResume (s : State) : State :=
  s.setRun (match s.run with | .running => .halted | .halted => .running)

/-- The read-only snapshot (R43). -/
structure Snapshot where
  a : Byte
  x : Byte
  y : Byte
  sp : Byte
  pc : Word
  p : Flags
  run : RunState
  fault : Option Fault
  nmiPending : Bool
  deriving DecidableEq, Repr

/-- Reads the snapshot (R43). -/
def State.snapshot (s : State) : Snapshot :=
  { a := s.a, x := s.x, y := s.y, sp := s.sp, pc := s.pc, p := s.p, run := s.run, fault := s.fault,
    nmiPending := s.nmiPending }

end Sys2Proof.Machine
end

