-- ==== Sys2Proof/Machine/Timing.lean ====
section
/-! DEFINITION. The cycle count that a step reports to the host (spec/70_reset_and_hazards.md R510, R511). No rule's effect on
any other state depends on it. -/

namespace Sys2Proof.Machine

/-- The "penalty" column of R103's listing. -/
inductive Penalty where
  | none
  | page
  | branch
  deriving DecidableEq, Repr

/-- The condition that a branch mnemonic tests (R321 to R328). -/
def conditionOf : Op → Option Condition
  | .bpl => some .plus
  | .bmi => some .minus
  | .bvc => some .overflowClear
  | .bvs => some .overflowSet
  | .bcc => some .carryClear
  | .bcs => some .carrySet
  | .bne => some .notEqual
  | .beq => some .equal
  | .adc | .sbc | .inc | .dec | .inx | .iny | .dex | .dey | .and | .ora | .eor | .bit
  | .asl | .lsr | .rol | .ror | .lda | .ldx | .ldy | .sta | .stx | .sty | .tax | .tay
  | .txa | .tya | .tsx | .txs | .cmp | .cpx | .cpy | .pha | .php | .pla | .plp | .jmp
  | .jsr | .rts | .clc | .sec | .cli | .sei | .cld | .sed | .clv | .nop | .brk | .rti => Option.none

/-- `Cycles(base, pen, crossed, taken)` (R510). -/
def cycleCount (base : Nat) (pen : Penalty) (crossed taken : Bool) : Nat :=
  base + (if pen = .page ∧ crossed then 1 else 0) + (if pen = .branch ∧ taken then 1 else 0)
    + (if pen = .branch ∧ taken ∧ crossed then 1 else 0)

/-- The cycles of an interrupt entry (R405, R510). -/
def interruptCycles : Nat := 7

end Sys2Proof.Machine

namespace Sys2Proof

open Machine

/-- The "base cycles" and "penalty" columns of R103's listing. -/
def Instr.timing : Instr → Nat × Penalty
  | .adcIndX _ => (6, .none)
  | .adcZp _ => (3, .none)
  | .adcImm _ => (2, .none)
  | .adcAbs _ => (4, .none)
  | .adcIndY _ => (5, .page)
  | .adcZpX _ => (4, .none)
  | .adcAbsY _ => (4, .page)
  | .adcAbsX _ => (4, .page)
  | .sbcIndX _ => (6, .none)
  | .sbcZp _ => (3, .none)
  | .sbcImm _ => (2, .none)
  | .sbcAbs _ => (4, .none)
  | .sbcIndY _ => (5, .page)
  | .sbcZpX _ => (4, .none)
  | .sbcAbsY _ => (4, .page)
  | .sbcAbsX _ => (4, .page)
  | .incZp _ => (5, .none)
  | .incAbs _ => (6, .none)
  | .incZpX _ => (6, .none)
  | .incAbsX _ => (7, .none)
  | .decZp _ => (5, .none)
  | .decAbs _ => (6, .none)
  | .decZpX _ => (6, .none)
  | .decAbsX _ => (7, .none)
  | .inx => (2, .none)
  | .iny => (2, .none)
  | .dex => (2, .none)
  | .dey => (2, .none)
  | .andIndX _ => (6, .none)
  | .andZp _ => (3, .none)
  | .andImm _ => (2, .none)
  | .andAbs _ => (4, .none)
  | .andIndY _ => (5, .page)
  | .andZpX _ => (4, .none)
  | .andAbsY _ => (4, .page)
  | .andAbsX _ => (4, .page)
  | .oraIndX _ => (6, .none)
  | .oraZp _ => (3, .none)
  | .oraImm _ => (2, .none)
  | .oraAbs _ => (4, .none)
  | .oraIndY _ => (5, .page)
  | .oraZpX _ => (4, .none)
  | .oraAbsY _ => (4, .page)
  | .oraAbsX _ => (4, .page)
  | .eorIndX _ => (6, .none)
  | .eorZp _ => (3, .none)
  | .eorImm _ => (2, .none)
  | .eorAbs _ => (4, .none)
  | .eorIndY _ => (5, .page)
  | .eorZpX _ => (4, .none)
  | .eorAbsY _ => (4, .page)
  | .eorAbsX _ => (4, .page)
  | .bitZp _ => (3, .none)
  | .bitAbs _ => (4, .none)
  | .aslZp _ => (5, .none)
  | .aslA => (2, .none)
  | .aslAbs _ => (6, .none)
  | .aslZpX _ => (6, .none)
  | .aslAbsX _ => (7, .none)
  | .lsrZp _ => (5, .none)
  | .lsrA => (2, .none)
  | .lsrAbs _ => (6, .none)
  | .lsrZpX _ => (6, .none)
  | .lsrAbsX _ => (7, .none)
  | .rolZp _ => (5, .none)
  | .rolA => (2, .none)
  | .rolAbs _ => (6, .none)
  | .rolZpX _ => (6, .none)
  | .rolAbsX _ => (7, .none)
  | .rorZp _ => (5, .none)
  | .rorA => (2, .none)
  | .rorAbs _ => (6, .none)
  | .rorZpX _ => (6, .none)
  | .rorAbsX _ => (7, .none)
  | .ldaIndX _ => (6, .none)
  | .ldaZp _ => (3, .none)
  | .ldaImm _ => (2, .none)
  | .ldaAbs _ => (4, .none)
  | .ldaIndY _ => (5, .page)
  | .ldaZpX _ => (4, .none)
  | .ldaAbsY _ => (4, .page)
  | .ldaAbsX _ => (4, .page)
  | .ldxImm _ => (2, .none)
  | .ldxZp _ => (3, .none)
  | .ldxAbs _ => (4, .none)
  | .ldxZpY _ => (4, .none)
  | .ldxAbsY _ => (4, .page)
  | .ldyImm _ => (2, .none)
  | .ldyZp _ => (3, .none)
  | .ldyAbs _ => (4, .none)
  | .ldyZpX _ => (4, .none)
  | .ldyAbsX _ => (4, .page)
  | .staIndX _ => (6, .none)
  | .staZp _ => (3, .none)
  | .staAbs _ => (4, .none)
  | .staIndY _ => (6, .none)
  | .staZpX _ => (4, .none)
  | .staAbsY _ => (5, .none)
  | .staAbsX _ => (5, .none)
  | .stxZp _ => (3, .none)
  | .stxAbs _ => (4, .none)
  | .stxZpY _ => (4, .none)
  | .styZp _ => (3, .none)
  | .styAbs _ => (4, .none)
  | .styZpX _ => (4, .none)
  | .tax => (2, .none)
  | .tay => (2, .none)
  | .txa => (2, .none)
  | .tya => (2, .none)
  | .tsx => (2, .none)
  | .txs => (2, .none)
  | .cmpIndX _ => (6, .none)
  | .cmpZp _ => (3, .none)
  | .cmpImm _ => (2, .none)
  | .cmpAbs _ => (4, .none)
  | .cmpIndY _ => (5, .page)
  | .cmpZpX _ => (4, .none)
  | .cmpAbsY _ => (4, .page)
  | .cmpAbsX _ => (4, .page)
  | .cpxImm _ => (2, .none)
  | .cpxZp _ => (3, .none)
  | .cpxAbs _ => (4, .none)
  | .cpyImm _ => (2, .none)
  | .cpyZp _ => (3, .none)
  | .cpyAbs _ => (4, .none)
  | .bpl _ => (2, .branch)
  | .bmi _ => (2, .branch)
  | .bvc _ => (2, .branch)
  | .bvs _ => (2, .branch)
  | .bcc _ => (2, .branch)
  | .bcs _ => (2, .branch)
  | .bne _ => (2, .branch)
  | .beq _ => (2, .branch)
  | .pha => (3, .none)
  | .php => (3, .none)
  | .pla => (4, .none)
  | .plp => (4, .none)
  | .jmpAbs _ => (3, .none)
  | .jmpInd _ => (5, .none)
  | .jsrAbs _ => (6, .none)
  | .rts => (6, .none)
  | .clc => (2, .none)
  | .sec => (2, .none)
  | .cli => (2, .none)
  | .sei => (2, .none)
  | .cld => (2, .none)
  | .sed => (2, .none)
  | .clv => (2, .none)
  | .nop => (2, .none)
  | .brk => (7, .none)
  | .rti => (6, .none)

/-- Whether the resolver reports a page crossing for the instruction (R123). -/
def Instr.crossed (i : Instr) (s : State) : Bool :=
  match i.operand with
  | some (.loc (.mem m)) => m.crossed s
  | some (.loc .acc) => false
  | some (.imm _) => false
  | none => false

/-- `taken` (R320): whether a branch's condition holds. -/
def Instr.taken (i : Instr) (s : State) : Bool :=
  match conditionOf i.op with
  | some cond => cond.holds s.p
  | none => false

/-- The cost of an instruction step; `s` is the state after the fetch, before the instruction's effect (R130, R510). -/
def Instr.cycles (i : Instr) (s : State) : Nat :=
  cycleCount i.timing.1 i.timing.2 (i.crossed s) (i.taken s)

end Sys2Proof
end

