-- ==== Sys2Proof/Machine/Engine.lean ====
section
/-! DEFINITION. The execution engine: `Step(irq, nmiEarly)` of spec/30_encoding.md R130, with the arbitration and the poll update
of spec/60_exceptions.md R404, R407, R408, and the host calls of R418. -/

namespace Sys2Proof.Machine

/-- What a Running step does at its boundary (R404). -/
inductive BoundaryEvent where
  | nmi
  | irq
  | instruction
  deriving DecidableEq, Repr

/-- `Arbitrate(irq)` (R404): NMI, then an IRQ that `pollI` does not mask, then the next instruction. -/
def State.arbitrate (s : State) : BoundaryEvent :=
  if s.nmiPending then .nmi
  else if s.irq && !s.pollI then .irq
  else .instruction

/-- The end of a step: an NMI request that `nmiEarly` brought and nothing took is latched (R403, R407), the input is consumed,
and the cycle count is returned (R510). -/
def State.endStep (s : State) (latch : Bool) (cycles : Nat) : State :=
  ((s.setNmiPending (s.nmiPending || latch)).setNmiEarly false).setCycles cycles

/-- The bytes at the program counter, in address order (R104): as many as the longest instruction has. Reading past a shorter
instruction has no effect (R64). DEDUCED, log 11. -/
def State.fetchBytes (s : State) : List Byte := [s.read s.pc, s.read (s.pc + 1#16), s.read (s.pc + 2#16)]

/-- PC after the fetch of an instruction: past its opcode and operand bytes, modulo 2^16 (R25, R104). -/
def State.pastInstr (s : State) (i : Instr) : State := s.setPc (s.pc + BitVec.ofNat 16 i.length)

/-- `UpdatePoll(mnem, iBefore)` (R408): after CLI, SEI and PLP the next boundary's IRQ test uses the old I. -/
def State.updatePoll (s : State) (op : Op) (iBefore : Bool) : State :=
  s.setPollI (if op = .cli ∨ op = .sei ∨ op = .plp then iBefore else s.p.i)

/-- An NMI entry step (R130): the latch is cleared, and a further request is latched. -/
def State.nmiStep (s : State) : State :=
  let entered := (s.setNmiPending false).interruptEntry Config.nmiVector false
  (entered.setPollI entered.p.i).endStep s.nmiEarly interruptCycles

/-- An IRQ entry step (R130), hijacked by an NMI request in its early part, which it consumes (R407). -/
def State.irqStep (s : State) : State :=
  let entered := s.interruptEntry s.irqOrHijackedVector false
  (entered.setPollI entered.p.i).endStep false interruptCycles

/-- A step that fetches an undefined opcode (R130, R409): it costs 0 cycles, and an NMI request is kept (conflict C8). -/
def State.faultStep (s : State) (op : Byte) : State :=
  (s.raiseDecodeFault s.pc op).endStep s.nmiEarly 0

/-- The end of an instruction step: `fetched` is the state its effect started in, `s` the one it left. BRK consumes the NMI
request that hijacks it (R130, R407). -/
def State.retire (s : State) (i : Instr) (fetched : State) : State :=
  (s.updatePoll i.op fetched.p.i).endStep (fetched.nmiEarly && i.op != .brk) (i.cycles fetched)

/-- An instruction step (R130): fetch and decode, execute, retire. -/
def State.instrStep (s : State) : Result :=
  match decode s.fetchBytes with
  | .instr i =>
    match exec i (s.pastInstr i) with
    | .next t => .next (t.retire i (s.pastInstr i))
    | .fault r => .fault r
    | .refused r => .refused r
  | .undefinedOpcode op => .next (s.faultStep op)
  | .truncated => .next (s.faultStep (s.read s.pc))

/-- `Step(irq, nmiEarly)` (R130), its two inputs read from the state (R42). While Halted it does nothing but latch an NMI
request (R37, R403, R417). -/
def State.coreStep (s : State) : Result :=
  match s.run with
  | .halted => .next (s.endStep s.nmiEarly 0)
  | .running =>
    match s.arbitrate with
    | .nmi => .next s.nmiStep
    | .irq => .next s.irqStep
    | .instruction => s.instrStep

/-- One call of the host (R418). -/
def State.hostCall (s : State) : HostCall → Result
  | .step nmiEarly => (s.setNmiEarly nmiEarly).coreStep
  | .reset draw => .next (s.resetWith draw)
  | .haltResume => .next s.haltResume
  | .nmiRequest => .next (s.setNmiPending true)
  | .driveIrq level => .next (s.setIrq level)
  | .load addr bytes => .next (s.load addr bytes)

/-- The next call of the host: the oldest of its schedule, or `step()` with the inputs as they stand when it lists none.
DESIGN CHOICE, log 7. -/
def State.hostStep (s : State) : Result :=
  match s.host with
  | [] => s.coreStep
  | call :: rest => (s.setHost rest).hostCall call

end Sys2Proof.Machine
end

