-- ==== Sys2Proof/Machine/Step.lean ====
section
/-! DEFINITION. One step of the machine, and how a word comes to be the instruction the next step fetches. -/

namespace Sys2Proof.Machine

/-- One step: the host's next call (R418), which is one `Step(irq, nmiEarly)` of R130 when its schedule lists none. -/
def step (s : State) : Host.Outcome State Fault Refusal := s.hostStep

/-- Stores an instruction's bytes at the program counter and clears what could keep the next step from fetching them: the
host's scheduled calls, a halt, a pending NMI and an asserted IRQ line. At `State.reset` these four are already clear (log 12). -/
def State.withFetchWord (s : State) (nbits w : Nat) : State :=
  let stored := s.load s.pc (tableWordBytes nbits w)
  (((stored.setHost []).setRun .running).setNmiPending false).setIrq false

end Sys2Proof.Machine
end

