-- ==== Sys2Proof/Safety.lean ====
section
/-! DEFINITION. What counts as a safe run, and the notions the statements are made in. -/

namespace Sys2Proof.Safety

open Sys2Proof.Machine

/-- The 105 undefined opcode bytes, as R105 lists them. -/
def undefinedOpcodes : List Byte :=
  [0x02#8, 0x03#8, 0x04#8, 0x07#8, 0x0B#8, 0x0C#8, 0x0F#8, 0x12#8, 0x13#8, 0x14#8, 0x17#8, 0x1A#8, 0x1B#8, 0x1C#8, 0x1F#8] ++
  [0x22#8, 0x23#8, 0x27#8, 0x2B#8, 0x2F#8, 0x32#8, 0x33#8, 0x34#8, 0x37#8, 0x3A#8, 0x3B#8, 0x3C#8, 0x3F#8, 0x42#8, 0x43#8] ++
  [0x44#8, 0x47#8, 0x4B#8, 0x4F#8, 0x52#8, 0x53#8, 0x54#8, 0x57#8, 0x5A#8, 0x5B#8, 0x5C#8, 0x5F#8, 0x62#8, 0x63#8, 0x64#8] ++
  [0x67#8, 0x6B#8, 0x6F#8, 0x72#8, 0x73#8, 0x74#8, 0x77#8, 0x7A#8, 0x7B#8, 0x7C#8, 0x7F#8, 0x80#8, 0x82#8, 0x83#8, 0x87#8] ++
  [0x89#8, 0x8B#8, 0x8F#8, 0x92#8, 0x93#8, 0x97#8, 0x9B#8, 0x9C#8, 0x9E#8, 0x9F#8, 0xA3#8, 0xA7#8, 0xAB#8, 0xAF#8, 0xB2#8] ++
  [0xB3#8, 0xB7#8, 0xBB#8, 0xBF#8, 0xC2#8, 0xC3#8, 0xC7#8, 0xCB#8, 0xCF#8, 0xD2#8, 0xD3#8, 0xD4#8, 0xD7#8, 0xDA#8, 0xDB#8] ++
  [0xDC#8, 0xDF#8, 0xE2#8, 0xE3#8, 0xE7#8, 0xEB#8, 0xEF#8, 0xF2#8, 0xF3#8, 0xF4#8, 0xF7#8, 0xFA#8, 0xFB#8, 0xFC#8, 0xFF#8]

/-- A state in which no decode fault is latched (R39). -/
def FaultFree (s : State) : Prop := s.fault = none

/-- A safe run of `n` steps: every step answers a next state and no state on the way has a fault latched. R409 and
spec/93_implementation_defined.md K1: a faulted state is not a final one, and a claim about a run takes "no fault" as a premise. -/
def SafeSteps : Nat → State → Prop
  | 0, s => FaultFree s
  | k + 1, s => FaultFree s ∧ ∃ t, step s = .next t ∧ SafeSteps k t

/-- The invariant of the machine: memory is in canonical form, the stored B is 0 (R31), and a latched fault names an
undefined opcode byte (R39, R105). -/
def Inv (s : State) : Prop :=
  s.mem.wf = true ∧ s.p.b = false ∧ ∀ addr op, s.fault = some (.decodeFault addr op) → op ∈ undefinedOpcodes

/-- A boundary at which the host calls `step()` and no interrupt is accepted, so that the step executes the instruction at PC
(R130, R404). -/
def Executes (s : State) : Prop :=
  s.host = [] ∧ s.run = .running ∧ s.nmiPending = false ∧ (s.irq = false ∨ s.pollI = true)

/-- The instruction whose bytes stand at PC. -/
def fetched (s : State) : Decoded := decode [s.read s.pc, s.read (s.pc + 1#16), s.read (s.pc + 2#16)]

/-- `SetNZ(v)` in numbers (R36): Z when the value is 0, N when its bit 7 is set. -/
def flagsNZ (p : Flags) (v : Byte) : Flags := { p with z := decide (v.toNat = 0), n := decide (128 ≤ v.toNat) }

/-- From `s` to `t`, memory changes at `k` alone, where it now holds `v`; its form stays canonical. -/
def WritesByte (s t : State) (k : Word) (v : Byte) : Prop :=
  t.mem.wf = true ∧ t.read k = v ∧ ∀ b, b ≠ k → t.read b = s.read b

/-- From `s` to `t`, memory changes at the stack bytes of `S`, `S - 1` and `S - 2` alone, which now hold `v0`, `v1`, `v2`. -/
def PushesThree (s t : State) (v0 v1 v2 : Byte) : Prop :=
  t.mem.wf = true ∧ t.read (stackAddr s.sp) = v0 ∧ t.read (stackAddr (s.sp - 1#8)) = v1 ∧ t.read (stackAddr (s.sp - 2#8)) = v2
    ∧ ∀ b, b ≠ stackAddr s.sp → b ≠ stackAddr (s.sp - 1#8) → b ≠ stackAddr (s.sp - 2#8) → t.read b = s.read b

/-- The instruction is encoded as one of the listed opcode bytes, with its addressing mode. -/
def EncodedAs (i : Instr) (listed : List (Byte × Mode)) : Prop := (i.opcode, i.mode) ∈ listed

/-- The effective address of an operand in memory. -/
def operandAddress (o : Option Operand) (s : State) : List Word :=
  match o with
  | some (.loc (.mem m)) => [m.ea s]
  | some (.loc .acc) => []
  | some (.imm _) => []
  | none => []

/-- The addresses an instruction stores to (R69), from the state its effect starts in. -/
def storesTo (i : Instr) (s : State) : List Word :=
  match i.op with
  | .sta | .stx | .sty | .asl | .lsr | .rol | .ror | .inc | .dec => operandAddress i.operand s
  | .pha | .php => [stackAddr s.sp]
  | .jsr => [stackAddr s.sp, stackAddr (s.sp - 1#8)]
  | .brk => [stackAddr s.sp, stackAddr (s.sp - 1#8), stackAddr (s.sp - 2#8)]
  | .adc | .sbc | .inx | .iny | .dex | .dey | .and | .ora | .eor | .bit | .lda | .ldx | .ldy | .tax | .tay | .txa | .tya
  | .tsx | .txs | .cmp | .cpx | .cpy | .bpl | .bmi | .bvc | .bvs | .bcc | .bcs | .bne | .beq | .pla | .plp | .jmp | .rts
  | .clc | .sec | .cli | .sei | .cld | .sed | .clv | .nop | .rti => []

/-- Runs one instruction's effect `n` times. -/
def execTimes (i : Instr) : Nat → State → Result
  | 0, s => .next s
  | n + 1, s =>
    match exec i s with
    | .next t => execTimes i n t
    | .fault r => .fault r
    | .refused r => .refused r

/-- A byte whose two nibbles are decimal digits (R202). -/
def IsBcd (v : Byte) : Prop := v.toNat / 16 ≤ 9 ∧ v.toNat % 16 ≤ 9

/-- The number that two decimal digits stand for. -/
def bcdValue (v : Byte) : Nat := 10 * (v.toNat / 16) + v.toNat % 16

end Sys2Proof.Safety
end

