-- ==== Sys2Proof/Certificates/Slice0/Obligations.lean ====
section
/-! DEFINITION. The statements for the provers. Each docstring names the rules of spec/ it formalises. A meaning starts after
the fetch: in a statement about `exec i s`, `s.pc` is the address of the next sequential instruction (R13, R25). -/

open Sys2Proof Sys2Proof.Machine Sys2Proof.Safety

/-! ## Encoding -/

/-- R103, a few rows written out byte by byte: 0xA9 is LDA immediate, 0xBD is LDA abs,X with its address low byte first, 0x6C is
the indirect JMP, 0x96 is STX zp,Y, 0x00 is BRK, and 0x02 is undefined. -/
def Obligations.ListedWordsDecodeToTheirInstructions : Prop :=
  decode [0xA9#8, 0x80#8] = .instr (.ldaImm 0x80#8) ∧
  decode [0xBD#8, 0xFF#8, 0x20#8] = .instr (.ldaAbsX 0x20FF#16) ∧
  decode [0x6C#8, 0xFF#8, 0x10#8] = .instr (.jmpInd 0x10FF#16) ∧
  decode [0x96#8, 0xFF#8] = .instr (.stxZpY 0xFF#8) ∧
  decode [0x91#8, 0x20#8] = .instr (.staIndY 0x20#8) ∧
  decode [0xD0#8, 0xFB#8] = .instr (.bne 0xFB#8) ∧
  decode [0x6A#8] = .instr .rorA ∧
  decode [0x00#8] = .instr .brk ∧
  decode [0x02#8, 0x00#8, 0x00#8] = .undefinedOpcode 0x02#8

/-- R100, R103: decoding the encoding of a well-formed instruction gives it back, whatever bytes follow, with every operand at
every value. -/
def Obligations.DecodeOfEncodeIsTheInstruction : Prop :=
  ∀ (i : Instr) (rest : List Byte), i.wellFormed = true → decode (encode i ++ rest) = .instr i

/-- R100, R101: what the decoder reads an instruction from begins with that instruction's encoding, so each byte string has one
meaning and no bit of it is dropped. -/
def Obligations.DecodedBytesBeginWithTheEncoding : Prop :=
  ∀ (bytes : List Byte) (i : Instr), decode bytes = .instr i → ∃ rest, bytes = encode i ++ rest

/-- R105: the decoder rejects exactly the 105 listed bytes. -/
def Obligations.RejectedBytesAreTheListedOnes : Prop :=
  ∀ (op : Byte) (rest : List Byte), decode (op :: rest) = .undefinedOpcode op ↔ op ∈ undefinedOpcodes

/-! ## The addressing modes -/

/-- R113 to R122: the effective address of each of the ten modes that have one, in numbers. The page-zero modes and the pointers of
(zp,X) and (zp),Y wrap within page zero, the absolute indexed modes wrap modulo 2^16, the indirect mode takes both bytes of its
target from the pointer's page, a branch adds its signed displacement to PC. -/
def Obligations.EffectiveAddressesOfTheModes : Prop :=
  ∀ (s : State) (z : Byte) (a : Word),
    ((AddrMode.zp z).ea s).toNat = z.toNat ∧
    ((AddrMode.zpX z).ea s).toNat = (z.toNat + s.x.toNat) % 256 ∧
    ((AddrMode.zpY z).ea s).toNat = (z.toNat + s.y.toNat) % 256 ∧
    (AddrMode.abs a).ea s = a ∧
    ((AddrMode.absX a).ea s).toNat = (a.toNat + s.x.toNat) % 65536 ∧
    ((AddrMode.absY a).ea s).toNat = (a.toNat + s.y.toNat) % 65536 ∧
    (∀ lo hi : Byte, s.mem.byteAt ((z.toNat + s.x.toNat) % 256) = lo → s.mem.byteAt ((z.toNat + s.x.toNat + 1) % 256) = hi →
      ((AddrMode.indX z).ea s).toNat = 256 * hi.toNat + lo.toNat) ∧
    (∀ lo hi : Byte, s.mem.byteAt z.toNat = lo → s.mem.byteAt ((z.toNat + 1) % 256) = hi →
      ((AddrMode.indY z).ea s).toNat = (256 * hi.toNat + lo.toNat + s.y.toNat) % 65536) ∧
    ((AddrMode.ind a).ea s).toNat =
      256 * (s.mem.byteAt (256 * (a.toNat / 256) + (a.toNat + 1) % 256)).toNat + (s.mem.byteAt a.toNat).toNat ∧
    (((AddrMode.rel z).ea s).toNat : Int) = ((s.pc.toNat : Int) + z.toInt) % 65536

/-- R60, R66, R67, R75: a word read takes its low byte at the address and its high byte at the next one, modulo 2^16, or modulo
2^8 in page zero; the stack byte that S selects is at 0x0100 + S. -/
def Obligations.WordReadsAreLittleEndianAndWrap : Prop :=
  ∀ (s : State) (a : Word) (z : Byte),
    (s.read16 a).toNat = 256 * (s.mem.byteAt ((a.toNat + 1) % 65536)).toNat + (s.mem.byteAt a.toNat).toNat ∧
    (s.read16ZP z).toNat = 256 * (s.mem.byteAt ((z.toNat + 1) % 256)).toNat + (s.mem.byteAt z.toNat).toNat ∧
    (stackAddr z).toNat = 0x100 + z.toNat

/-! ## Memory and the stack -/

/-- R63 with R273 and R270: a byte that STA stores is what LDA loads from the same address, and no other address changed. -/
def Obligations.StoredByteIsLoadedBack : Prop :=
  ∀ (s : State) (addr : Word), s.mem.wf = true →
    ∃ t, exec (.staAbs addr) s = .next t ∧ WritesByte s t addr s.a ∧
      exec (.ldaAbs addr) t = .next { t with p := flagsNZ s.p s.a }

/-- Memories in canonical form that read alike at every address are equal data (the model's own representation, log 1). -/
def Obligations.CanonicalMemoriesThatReadAlikeAreEqual : Prop :=
  ∀ m n : Memory, m.wf = true → n.wf = true → (∀ a, a < 65536 → m.byteAt a = n.byteAt a) → m = n

/-- R75, R76: a push writes the byte at 0x0100 + S and decrements S; a pull after it returns the byte and leaves S as it was. -/
def Obligations.PullAfterPushReturnsTheByte : Prop :=
  ∀ (s : State) (v : Byte), s.mem.wf = true →
    WritesByte s (s.push v) (stackAddr s.sp) v ∧ (s.push v) = { s with mem := (s.push v).mem, sp := s.sp - 1#8 } ∧
    (s.push v).pull = (v, { s with mem := (s.push v).mem })

/-! ## Arithmetic -/

/-- R204 with R202, for every form of ADC. Binary (D = 0, or `BinaryOnly`): the exact sum modulo 256, C its carry out, V signed
overflow. Decimal (D = 1 and `NmosBcd`): the NMOS algorithm, with Z from the binary sum and N and V from the intermediate. -/
def Obligations.AdcAddsWithCarry : Prop :=
  ∀ (i : Instr) (s : State), i.op = .adc → EncodedAs i [(0x61#8, .indX), (0x65#8, .zp), (0x69#8, .imm),
      (0x6D#8, .abs), (0x71#8, .indY), (0x75#8, .zpX), (0x79#8, .absY), (0x7D#8, .absX)] ∧
    ∃ o, i.operand = some o ∧
    let m := o.value s
    let c := s.p.c.toNat
    let sum := s.a.toNat + m.toNat + c
    let signedSum := s.a.toInt + m.toInt + c
    let lo := s.a.toNat % 16 + m.toNat % 16 + c
    let lo' := if 10 ≤ lo then (lo + 6) % 16 + 16 else lo
    let t := 16 * (s.a.toNat / 16) + 16 * (m.toNat / 16) + lo'
    let high (v : Byte) : Int := if 128 ≤ v.toNat then 16 * (v.toNat / 16 : Nat) - 256 else 16 * (v.toNat / 16 : Nat)
    let ts := high s.a + high m + lo'
    let t' := if 0xA0 ≤ t then t + 0x60 else t
    (s.p.d = false ∨ s.decimalMode = .binaryOnly →
      exec i s = .next { s with
        a := BitVec.ofNat 8 sum
        p := { flagsNZ s.p (BitVec.ofNat 8 sum) with
          c := decide (256 ≤ sum), v := decide (signedSum < -128 ∨ 127 < signedSum) } }) ∧
    (s.p.d = true ∧ s.decimalMode = .nmosBcd →
      exec i s = .next { s with
        a := BitVec.ofNat 8 t'
        p := { s.p with
          n := decide (128 ≤ t % 256), v := decide (ts < -128 ∨ 127 < ts), c := decide (256 ≤ t'), z := decide (sum % 256 = 0) } })

/-- R205 with R203, for every form of SBC. The flags are those of the binary subtraction in both modes; the accumulator is the
exact difference modulo 256 (binary), or the NMOS decimal algorithm's. -/
def Obligations.SbcSubtractsWithBorrow : Prop :=
  ∀ (i : Instr) (s : State), i.op = .sbc → EncodedAs i [(0xE1#8, .indX), (0xE5#8, .zp), (0xE9#8, .imm),
      (0xED#8, .abs), (0xF1#8, .indY), (0xF5#8, .zpX), (0xF9#8, .absY), (0xFD#8, .absX)] ∧
    ∃ o, i.operand = some o ∧
    let m := o.value s
    let borrow : Int := if s.p.c then 0 else 1
    let diff : Int := s.a.toNat - m.toNat - borrow
    let signedDiff := s.a.toInt - m.toInt - borrow
    let flags := { flagsNZ s.p (BitVec.ofInt 8 diff) with
      c := decide (0 ≤ diff), v := decide (signedDiff < -128 ∨ 127 < signedDiff) }
    let lo : Int := (s.a.toNat % 16 : Nat) - (m.toNat % 16 : Nat) - borrow
    let lo' : Int := if lo < 0 then (lo - 6) % 16 - 16 else lo
    let t : Int := 16 * (s.a.toNat / 16 : Nat) - 16 * (m.toNat / 16 : Nat) + lo'
    let t' : Int := if t < 0 then t - 0x60 else t
    (s.p.d = false ∨ s.decimalMode = .binaryOnly → exec i s = .next { s with a := BitVec.ofInt 8 diff, p := flags }) ∧
    (s.p.d = true ∧ s.decimalMode = .nmosBcd → exec i s = .next { s with a := BitVec.ofInt 8 t', p := flags })

/-- R202: for valid BCD operands, A and C after a decimal ADC are the two-digit decimal sum and its carry. -/
def Obligations.DecimalAdcIsTheTwoDigitSum : Prop :=
  ∀ (i : Instr) (o : Operand) (s : State), i.op = .adc → i.operand = some o → s.p.d = true → s.decimalMode = .nmosBcd →
    IsBcd s.a → IsBcd (o.value s) → ∃ t, exec i s = .next t ∧ IsBcd t.a ∧
      bcdValue t.a = (bcdValue s.a + bcdValue (o.value s) + s.p.c.toNat) % 100 ∧
      t.p.c = decide (100 ≤ bcdValue s.a + bcdValue (o.value s) + s.p.c.toNat)

/-- R203: for valid BCD operands, A after a decimal SBC is the two-digit decimal difference modulo 100, and C = 1 means no
borrow. -/
def Obligations.DecimalSbcIsTheTwoDigitDifference : Prop :=
  ∀ (i : Instr) (o : Operand) (s : State), i.op = .sbc → i.operand = some o → s.p.d = true → s.decimalMode = .nmosBcd →
    IsBcd s.a → IsBcd (o.value s) → ∃ t, exec i s = .next t ∧ IsBcd t.a ∧
      (bcdValue t.a : Int) = ((bcdValue s.a : Int) - bcdValue (o.value s) - (1 - s.p.c.toNat)) % 100 ∧
      t.p.c = decide (bcdValue (o.value s) + (1 - s.p.c.toNat) ≤ bcdValue s.a)

/-- R201: the decimal mode parameter matters to ADC and SBC with D = 1 alone; every other instruction does the same under both
of its values. -/
def Obligations.DecimalModeMattersToDecimalAddsAlone : Prop :=
  ∀ (i : Instr) (s t : State) (mode : DecimalMode), (i.op ≠ .adc ∧ i.op ≠ .sbc) ∨ s.p.d = false →
    exec i s = .next t → exec i { s with decimalMode := mode } = .next { t with decimalMode := mode }

/-- R206, R207: INC and DEC write the byte at EA plus or minus one, modulo 256, and set N and Z from it; every form has a memory
operand. -/
def Obligations.IncDecChangeOneMemoryByte : Prop :=
  ∀ (i : Instr) (s : State), s.mem.wf = true → (i.op = .inc ∨ i.op = .dec) →
    EncodedAs i (if i.op = .inc then [(0xE6#8, .zp), (0xEE#8, .abs), (0xF6#8, .zpX), (0xFE#8, .absX)]
      else [(0xC6#8, .zp), (0xCE#8, .abs), (0xD6#8, .zpX), (0xDE#8, .absX)]) ∧
    ∃ m t, i.operand = some (.loc (.mem m)) ∧ exec i s = .next t ∧
      let v := BitVec.ofInt 8 ((s.read (m.ea s)).toNat + (if i.op = .inc then 1 else -1))
      t = { s with mem := t.mem, p := flagsNZ s.p v } ∧ WritesByte s t (m.ea s) v

/-- R208 to R211: INX, INY, DEX and DEY wrap modulo 256 and set N and Z. -/
def Obligations.IndexIncrementsWrap : Prop :=
  ∀ s : State,
    Instr.inx.opcode = 0xE8#8 ∧ Instr.iny.opcode = 0xC8#8 ∧ Instr.dex.opcode = 0xCA#8 ∧ Instr.dey.opcode = 0x88#8 ∧
    exec .inx s = .next { s with
      x := BitVec.ofNat 8 (s.x.toNat + 1), p := flagsNZ s.p (BitVec.ofNat 8 (s.x.toNat + 1)) } ∧
    exec .iny s = .next { s with
      y := BitVec.ofNat 8 (s.y.toNat + 1), p := flagsNZ s.p (BitVec.ofNat 8 (s.y.toNat + 1)) } ∧
    exec .dex s = .next { s with
      x := BitVec.ofNat 8 (s.x.toNat + 255), p := flagsNZ s.p (BitVec.ofNat 8 (s.x.toNat + 255)) } ∧
    exec .dey s = .next { s with
      y := BitVec.ofNat 8 (s.y.toNat + 255), p := flagsNZ s.p (BitVec.ofNat 8 (s.y.toNat + 255)) }

/-! ## Logical operations, shifts and rotates -/

/-- R230 to R232: AND, ORA and EOR write A and set N and Z from it, in every form. -/
def Obligations.LogicalOperationsWriteA : Prop :=
  ∀ (i : Instr) (s : State),
    (i.op = .and → EncodedAs i [(0x21#8, .indX), (0x25#8, .zp), (0x29#8, .imm), (0x2D#8, .abs), (0x31#8, .indY),
        (0x35#8, .zpX), (0x39#8, .absY), (0x3D#8, .absX)] ∧
      ∃ o, i.operand = some o ∧
      exec i s = .next { s with a := s.a &&& o.value s, p := flagsNZ s.p (s.a &&& o.value s) }) ∧
    (i.op = .ora → EncodedAs i [(0x01#8, .indX), (0x05#8, .zp), (0x09#8, .imm), (0x0D#8, .abs), (0x11#8, .indY),
        (0x15#8, .zpX), (0x19#8, .absY), (0x1D#8, .absX)] ∧
      ∃ o, i.operand = some o ∧
      exec i s = .next { s with a := s.a ||| o.value s, p := flagsNZ s.p (s.a ||| o.value s) }) ∧
    (i.op = .eor → EncodedAs i [(0x41#8, .indX), (0x45#8, .zp), (0x49#8, .imm), (0x4D#8, .abs), (0x51#8, .indY),
        (0x55#8, .zpX), (0x59#8, .absY), (0x5D#8, .absX)] ∧
      ∃ o, i.operand = some o ∧
      exec i s = .next { s with a := s.a ^^^ o.value s, p := flagsNZ s.p (s.a ^^^ o.value s) })

/-- R233: BIT sets Z from `A & M` and copies N and V from bits 7 and 6 of the memory operand; A and memory are unchanged. -/
def Obligations.BitCopiesOperandBits : Prop :=
  ∀ (i : Instr) (s : State), i.op = .bit → EncodedAs i [(0x24#8, .zp), (0x2C#8, .abs)] ∧ ∃ m, i.operand = some (.loc (.mem m)) ∧
    let v := s.read (m.ea s)
    exec i s = .next { s with p := { s.p with
      z := decide (s.a &&& v = 0#8), n := decide (128 ≤ v.toNat), v := decide (64 ≤ v.toNat % 128) } }

/-- R251 to R254 on A: ASL A, LSR A, ROL A and ROR A in numbers. -/
def Obligations.ShiftsOfTheAccumulator : Prop :=
  ∀ s : State,
    let c := s.p.c.toNat
    let left := BitVec.ofNat 8 (2 * s.a.toNat)
    let right := BitVec.ofNat 8 (s.a.toNat / 2)
    let rol := BitVec.ofNat 8 (2 * s.a.toNat + c)
    let ror := BitVec.ofNat 8 (s.a.toNat / 2 + 128 * c)
    let out7 := decide (128 ≤ s.a.toNat)
    let out0 := decide (s.a.toNat % 2 = 1)
    Instr.aslA.opcode = 0x0A#8 ∧ Instr.lsrA.opcode = 0x4A#8 ∧ Instr.rolA.opcode = 0x2A#8 ∧ Instr.rorA.opcode = 0x6A#8 ∧
    exec .aslA s = .next { s with a := left, p := { flagsNZ s.p left with c := out7 } } ∧
    exec .lsrA s = .next { s with a := right, p := { flagsNZ s.p right with c := out0 } } ∧
    exec .rolA s = .next { s with a := rol, p := { flagsNZ s.p rol with c := out7 } } ∧
    exec .rorA s = .next { s with a := ror, p := { flagsNZ s.p ror with c := out0 } }

/-- R250 to R254 on memory, for every form of the four mnemonics: the byte at EA is read once and written once. -/
def Obligations.ShiftsOfAMemoryByte : Prop :=
  ∀ (i : Instr) (m : AddrMode) (s : State), s.mem.wf = true → i.operand = some (.loc (.mem m)) →
    let v := (s.read (m.ea s)).toNat
    let c := s.p.c.toNat
    let shifted (w : Nat) (carry : Bool) : Prop := ∃ t, exec i s = .next t ∧
      t = { s with mem := t.mem, p := { flagsNZ s.p (BitVec.ofNat 8 w) with c := carry } } ∧
      WritesByte s t (m.ea s) (BitVec.ofNat 8 w)
    (i.op = .asl → EncodedAs i [(0x06#8, .zp), (0x0E#8, .abs), (0x16#8, .zpX), (0x1E#8, .absX)] ∧
      shifted (2 * v) (decide (128 ≤ v))) ∧
    (i.op = .lsr → EncodedAs i [(0x46#8, .zp), (0x4E#8, .abs), (0x56#8, .zpX), (0x5E#8, .absX)] ∧
      shifted (v / 2) (decide (v % 2 = 1))) ∧
    (i.op = .rol → EncodedAs i [(0x26#8, .zp), (0x2E#8, .abs), (0x36#8, .zpX), (0x3E#8, .absX)] ∧
      shifted (2 * v + c) (decide (128 ≤ v))) ∧
    (i.op = .ror → EncodedAs i [(0x66#8, .zp), (0x6E#8, .abs), (0x76#8, .zpX), (0x7E#8, .absX)] ∧
      shifted (v / 2 + 128 * c) (decide (v % 2 = 1)))

/-- R253, corner case: nine ROLs restore both the operand and C, a 9-bit rotation, in every form; nine RORs do too (R254). Memory
reads as before and no other field but N and Z changes. -/
def Obligations.NineRotatesRestoreTheOperandAndCarry : Prop :=
  ∀ (i : Instr) (s : State), s.mem.wf = true → (i.op = .rol ∨ i.op = .ror) →
    ∃ l t, i.operand = some (.loc l) ∧ execTimes i 9 s = .next t ∧ l.value t = l.value s ∧ t.p.c = s.p.c ∧
      t = { s with mem := t.mem, p := { s.p with n := t.p.n, z := t.p.z } } ∧ ∀ b, t.read b = s.read b

/-! ## Loads, stores, transfers and compares -/

/-- R270 to R272: a load writes its register and sets Z exactly when the loaded value is 0 and N exactly when its bit 7 is set;
the indexed absolute and (zp),Y forms cost one more cycle on a page crossing. -/
def Obligations.LoadsWriteARegisterAndNZ : Prop :=
  ∀ (i : Instr) (s : State), (i.op = .lda ∨ i.op = .ldx ∨ i.op = .ldy) → ∃ o, i.operand = some o ∧
    (i.op = .lda → EncodedAs i [(0xA1#8, .indX), (0xA5#8, .zp), (0xA9#8, .imm), (0xAD#8, .abs), (0xB1#8, .indY),
        (0xB5#8, .zpX), (0xB9#8, .absY), (0xBD#8, .absX)] ∧
      exec i s = .next { s with a := o.value s, p := flagsNZ s.p (o.value s) }) ∧
    (i.op = .ldx → EncodedAs i [(0xA2#8, .imm), (0xA6#8, .zp), (0xAE#8, .abs), (0xB6#8, .zpY), (0xBE#8, .absY)] ∧
      exec i s = .next { s with x := o.value s, p := flagsNZ s.p (o.value s) }) ∧
    (i.op = .ldy → EncodedAs i [(0xA0#8, .imm), (0xA4#8, .zp), (0xAC#8, .abs), (0xB4#8, .zpX), (0xBC#8, .absX)] ∧
      exec i s = .next { s with y := o.value s, p := flagsNZ s.p (o.value s) }) ∧
    (∀ m, o = .loc (.mem m) → (i.mode = .absX ∨ i.mode = .absY → i.cycles s = 4 + (m.crossed s).toNat) ∧
      (i.mode = .indY → i.cycles s = 5 + (m.crossed s).toNat))

/-- R273 to R275: a store writes its register's value at the effective address of its operand, and nothing else; its indexed
forms have fixed cycle counts. -/
def Obligations.StoresWriteOneByteAndNoFlag : Prop :=
  ∀ (i : Instr) (s : State), s.mem.wf = true → (i.op = .sta ∨ i.op = .stx ∨ i.op = .sty) →
    ∃ m t, i.operand = some (.loc (.mem m)) ∧ exec i s = .next t ∧ t = { s with mem := t.mem } ∧
      (i.mode = .absX ∨ i.mode = .absY → i.cycles s = 5) ∧ (i.mode = .indY → i.cycles s = 6) ∧
      (i.op = .sta → EncodedAs i [(0x81#8, .indX), (0x85#8, .zp), (0x8D#8, .abs), (0x91#8, .indY), (0x95#8, .zpX),
          (0x99#8, .absY), (0x9D#8, .absX)] ∧
        WritesByte s t (m.ea s) s.a) ∧
      (i.op = .stx → EncodedAs i [(0x86#8, .zp), (0x8E#8, .abs), (0x96#8, .zpY)] ∧
        WritesByte s t (m.ea s) s.x) ∧
      (i.op = .sty → EncodedAs i [(0x84#8, .zp), (0x8C#8, .abs), (0x94#8, .zpX)] ∧
        WritesByte s t (m.ea s) s.y)

/-- R276 to R281: the transfers set N and Z from the value they move, but TXS, which writes no flag. -/
def Obligations.TransfersMoveARegister : Prop :=
  ∀ s : State,
    Instr.tax.opcode = 0xAA#8 ∧ Instr.tay.opcode = 0xA8#8 ∧ Instr.txa.opcode = 0x8A#8 ∧ Instr.tya.opcode = 0x98#8 ∧
    Instr.tsx.opcode = 0xBA#8 ∧ Instr.txs.opcode = 0x9A#8 ∧
    exec .tax s = .next { s with x := s.a, p := flagsNZ s.p s.a } ∧
    exec .tay s = .next { s with y := s.a, p := flagsNZ s.p s.a } ∧
    exec .txa s = .next { s with a := s.x, p := flagsNZ s.p s.x } ∧
    exec .tya s = .next { s with a := s.y, p := flagsNZ s.p s.y } ∧
    exec .tsx s = .next { s with x := s.sp, p := flagsNZ s.p s.sp } ∧
    exec .txs s = .next { s with sp := s.x }

/-- R300 to R303: a compare sets C when the register is at or above the operand, unsigned, Z when they are equal, and N from bit 7
of the difference modulo 256; it writes nothing else, and D has no effect. -/
def Obligations.ComparesSetFlagsOnly : Prop :=
  ∀ (i : Instr) (s : State), (i.op = .cmp ∨ i.op = .cpx ∨ i.op = .cpy) → ∃ o, i.operand = some o ∧
    let m := (o.value s).toNat
    let compared (r : Nat) : Prop := exec i s = .next { s with p := { s.p with
      c := decide (m ≤ r), z := decide (r = m), n := decide (128 ≤ (r + 256 - m) % 256) } }
    (i.op = .cmp → EncodedAs i [(0xC1#8, .indX), (0xC5#8, .zp), (0xC9#8, .imm), (0xCD#8, .abs), (0xD1#8, .indY),
        (0xD5#8, .zpX), (0xD9#8, .absY), (0xDD#8, .absX)] ∧
      compared s.a.toNat) ∧
    (i.op = .cpx → EncodedAs i [(0xE0#8, .imm), (0xE4#8, .zp), (0xEC#8, .abs)] ∧ compared s.x.toNat) ∧
    (i.op = .cpy → EncodedAs i [(0xC0#8, .imm), (0xC4#8, .zp), (0xCC#8, .abs)] ∧ compared s.y.toNat)

/-! ## Branches, jumps and subroutines -/

/-- R320 to R328: a branch takes PC to its target when its condition holds and leaves it at the next instruction when not, writes
no flag, and costs 2 cycles, 3 when taken, 4 when taken across a page. -/
def Obligations.BranchesFollowTheirCondition : Prop :=
  ∀ (s : State) (r : Byte),
    let branches (i : Instr) (opcode : Byte) (cond : Bool) : Prop :=
      encode i = [opcode, r] ∧
      exec i s = .next { s with pc := if cond then s.pc + r.signExtend 16 else s.pc } ∧
      i.cycles s = if cond then (if (s.pc + r.signExtend 16).toNat / 256 = s.pc.toNat / 256 then 3 else 4) else 2
    branches (.bpl r) 0x10#8 (!s.p.n) ∧ branches (.bmi r) 0x30#8 s.p.n ∧ branches (.bvc r) 0x50#8 (!s.p.v) ∧ branches (.bvs r) 0x70#8 s.p.v ∧
    branches (.bcc r) 0x90#8 (!s.p.c) ∧ branches (.bcs r) 0xB0#8 s.p.c ∧ branches (.bne r) 0xD0#8 (!s.p.z) ∧ branches (.beq r) 0xF0#8 s.p.z

/-- R360 with R116 and R119: JMP loads PC with its operand, or with the word its pointer selects, whose high byte comes from the
pointer's own page; nothing else changes. -/
def Obligations.JumpsLoadPc : Prop :=
  ∀ (s : State) (a : Word),
    (Instr.jmpAbs a).opcode = 0x4C#8 ∧ (Instr.jmpInd a).opcode = 0x6C#8 ∧
    exec (.jmpAbs a) s = .next { s with pc := a } ∧
    ∃ t, exec (.jmpInd a) s = .next t ∧ t = { s with pc := t.pc } ∧
      t.pc.toNat = 256 * (s.mem.byteAt (256 * (a.toNat / 256) + (a.toNat + 1) % 256)).toNat + (s.mem.byteAt a.toNat).toNat

/-- R361: JSR pushes the address of its own last byte, high byte first, and loads PC with its operand. -/
def Obligations.JsrPushesItsLastByteAddress : Prop :=
  ∀ (s : State) (a : Word), s.mem.wf = true →
    let ret := s.pc.toNat + 65535
    (Instr.jsrAbs a).opcode = 0x20#8 ∧ ∃ t, exec (.jsrAbs a) s = .next t ∧ t = { s with pc := a, sp := s.sp - 2#8, mem := t.mem } ∧ t.mem.wf = true ∧
      (t.read (stackAddr s.sp)).toNat = ret / 256 % 256 ∧ (t.read (stackAddr (s.sp - 1#8))).toNat = ret % 256 ∧
      ∀ b, b ≠ stackAddr s.sp → b ≠ stackAddr (s.sp - 1#8) → t.read b = s.read b

/-- R362: RTS pulls a word, low byte first, and loads PC with it plus one, modulo 2^16. -/
def Obligations.RtsReturnsPastThePulledAddress : Prop :=
  ∀ s : State, Instr.rts.opcode = 0x60#8 ∧ ∃ t, exec .rts s = .next t ∧ t = { s with pc := t.pc, sp := s.sp + 2#8 } ∧
    t.pc.toNat = (256 * (s.read (stackAddr (s.sp + 2#8))).toNat + (s.read (stackAddr (s.sp + 1#8))).toNat + 1) % 65536

/-- R361, R362: an RTS right after a JSR goes back to the instruction after it, with S, the registers and the flags as before. -/
def Obligations.RtsAfterJsrResumesAfterTheCall : Prop :=
  ∀ (s : State) (a : Word), s.mem.wf = true →
    ∃ t, exec (.jsrAbs a) s = .next t ∧ exec .rts t = .next { s with mem := t.mem }

/-! ## The stack instructions -/

/-- R340, R341, R35: PHA pushes A; PHP pushes the flags' byte image with bits 5 and 4 set. Neither writes a flag. -/
def Obligations.PushesOfAAndStatus : Prop :=
  ∀ s : State, s.mem.wf = true →
    Instr.pha.opcode = 0x48#8 ∧ Instr.php.opcode = 0x08#8 ∧
    (∃ t, exec .pha s = .next t ∧ t = { s with sp := s.sp - 1#8, mem := t.mem } ∧ WritesByte s t (stackAddr s.sp) s.a) ∧
    (∃ t, exec .php s = .next t ∧ t = { s with sp := s.sp - 1#8, mem := t.mem } ∧
      WritesByte s t (stackAddr s.sp) (packP s.p true))

/-- R342, R343, R38: PLA loads A from the stack and sets N and Z; PLP loads the six flags and leaves the stored B. -/
def Obligations.PullsOfAAndStatus : Prop :=
  ∀ s : State,
    let v := s.read (stackAddr (s.sp + 1#8))
    Instr.pla.opcode = 0x68#8 ∧ Instr.plp.opcode = 0x28#8 ∧
    exec .pla s = .next { s with sp := s.sp + 1#8, a := v, p := flagsNZ s.p v } ∧
    exec .plp s = .next { s with sp := s.sp + 1#8, p := ⟨decide (v.toNat / 128 % 2 = 1), decide (v.toNat / 64 % 2 = 1), s.p.b,
      decide (v.toNat / 8 % 2 = 1), decide (v.toNat / 4 % 2 = 1), decide (v.toNat / 2 % 2 = 1), decide (v.toNat % 2 = 1)⟩ }

/-- R35, R38, R32: the byte image places N V 1 b D I Z C at bits 7 down to 0; unpacking it gives the six flags back and keeps the
stored B, which the image does not hold. -/
def Obligations.StatusByteImageAndItsInverse : Prop :=
  ∀ (p q : Flags) (b : Bool),
    (packP p b).toNat = 128 * p.n.toNat + 64 * p.v.toNat + 32 + 16 * b.toNat + 8 * p.d.toNat + 4 * p.i.toNat + 2 * p.z.toNat
      + p.c.toNat ∧
    unpackP (packP p b) q = { p with b := q.b }

/-! ## Flags, NOP, BRK and RTI -/

/-- R380 to R386: each flag instruction writes its one flag. R387: NOP changes nothing after the fetch. -/
def Obligations.FlagInstructionsAndNop : Prop :=
  ∀ s : State,
    [Instr.clc, .sec, .cli, .sei, .cld, .sed, .clv, .nop].map Instr.opcode =
      [0x18#8, 0x38#8, 0x58#8, 0x78#8, 0xD8#8, 0xF8#8, 0xB8#8, 0xEA#8] ∧
    exec .clc s = .next { s with p := { s.p with c := false } } ∧ exec .sec s = .next { s with p := { s.p with c := true } } ∧
    exec .cli s = .next { s with p := { s.p with i := false } } ∧ exec .sei s = .next { s with p := { s.p with i := true } } ∧
    exec .cld s = .next { s with p := { s.p with d := false } } ∧ exec .sed s = .next { s with p := { s.p with d := true } } ∧
    exec .clv s = .next { s with p := { s.p with v := false } } ∧ exec .nop s = .next s

/-- R388: BRK pushes the address past its padding byte, high byte first, and the status byte with B = 1, sets I, and loads PC from
0xFFFE, or from the NMI vector when `nmiEarly` hijacks it; D and the stored B are unchanged. -/
def Obligations.BrkEntersThroughItsVector : Prop :=
  ∀ s : State, s.mem.wf = true →
    let ret := s.pc + 1#16
    Instr.brk.opcode = 0x00#8 ∧ ∃ t, exec .brk s = .next t ∧
      t = { s with
        sp := s.sp - 3#8, mem := t.mem, p := { s.p with i := true }
        pc := s.read16 (if s.nmiEarly then 0xFFFA#16 else 0xFFFE#16) } ∧
      PushesThree s t (BitVec.ofNat 8 (ret.toNat / 256)) (BitVec.ofNat 8 ret.toNat) (packP s.p true) ∧
      Instr.brk.cycles s = 7

/-- R389: RTI pulls the status byte and then PC, low byte first, with no increment. -/
def Obligations.RtiRestoresStatusAndPc : Prop :=
  ∀ s : State, Instr.rti.opcode = 0x40#8 ∧ ∃ t, exec .rti s = .next t ∧
    t = { s with sp := s.sp + 3#8, pc := t.pc, p := unpackP (s.read (stackAddr (s.sp + 1#8))) s.p } ∧
    t.pc.toNat = 256 * (s.read (stackAddr (s.sp + 3#8))).toNat + (s.read (stackAddr (s.sp + 2#8))).toNat

/-- R388, R389, R410: an RTI right after a BRK returns to BRK + 2 with every flag, register and S as before. -/
def Obligations.RtiAfterBrkResumesPastThePadding : Prop :=
  ∀ s : State, s.mem.wf = true →
    ∃ t, exec .brk s = .next t ∧ exec .rti t = .next { s with pc := s.pc + 1#16, mem := t.mem }

/-! ## Whole-machine rules about instructions -/

/-- R21 to R25: the registers are written by the instructions their rules name, and by no other (here for an instruction's effect,
after the fetch). -/
def Obligations.RegistersChangeOnlyByTheirWriters : Prop :=
  ∀ (i : Instr) (s t : State), exec i s = .next t →
    (t.a ≠ s.a → i.op ∈ [Op.lda, .pla, .txa, .tya, .adc, .sbc, .and, .ora, .eor] ∨ i.mode = .acc) ∧
    (t.x ≠ s.x → i.op ∈ [Op.ldx, .tax, .tsx, .inx, .dex]) ∧
    (t.y ≠ s.y → i.op ∈ [Op.ldy, .tay, .iny, .dey]) ∧
    (t.sp ≠ s.sp → i.op ∈ [Op.txs, .pha, .php, .pla, .plp, .jsr, .rts, .brk, .rti]) ∧
    (t.pc ≠ s.pc → i.op ∈ [Op.bpl, .bmi, .bvc, .bvs, .bcc, .bcs, .bne, .beq, .jmp, .jsr, .rts, .brk, .rti])

/-- R27 to R34: the flags are written by the instructions their rules name, and by no other; no instruction writes the stored
B. -/
def Obligations.FlagsChangeOnlyByTheirWriters : Prop :=
  ∀ (i : Instr) (s t : State), exec i s = .next t →
    (t.p.c ≠ s.p.c → i.op ∈ [Op.adc, .sbc, .cmp, .cpx, .cpy, .asl, .lsr, .rol, .ror, .clc, .sec, .plp, .rti]) ∧
    (t.p.i ≠ s.p.i → i.op ∈ [Op.sei, .cli, .plp, .rti, .brk]) ∧
    (t.p.d ≠ s.p.d → i.op ∈ [Op.sed, .cld, .plp, .rti]) ∧
    (t.p.v ≠ s.p.v → i.op ∈ [Op.adc, .sbc, .bit, .clv, .plp, .rti]) ∧
    (t.p.n ≠ s.p.n ∨ t.p.z ≠ s.p.z → i.op ∈ [Op.lda, .ldx, .ldy, .pla, .tax, .tay, .txa, .tya, .tsx, .adc, .sbc, .and, .ora,
      .eor, .bit, .asl, .lsr, .rol, .ror, .inc, .dec, .inx, .iny, .dex, .dey, .cmp, .cpx, .cpy, .plp, .rti]) ∧
    t.p.b = s.p.b

/-- R69, R74: an instruction changes no byte of memory outside the addresses its rule stores to, computed as the meaning computes
them; it keeps memory's canonical form. -/
def Obligations.MemoryChangesOnlyWhereStored : Prop :=
  ∀ (i : Instr) (s t : State), exec i s = .next t →
    (∀ b, b ∉ storesTo i s → t.read b = s.read b) ∧ (s.mem.wf = true → t.mem.wf = true)

/-- R37, R39, R40, R42: no instruction's effect touches the run state, the latches, the host's inputs or the parameter. -/
def Obligations.HostAndLatchStateIsOutOfReach : Prop :=
  ∀ (i : Instr) (s t : State), exec i s = .next t →
    t.run = s.run ∧ t.fault = s.fault ∧ t.nmiPending = s.nmiPending ∧ t.pollI = s.pollI ∧ t.decimalMode = s.decimalMode ∧
    t.irq = s.irq ∧ t.nmiEarly = s.nmiEarly ∧ t.host = s.host ∧ t.cycles = s.cycles

/-! ## The step -/

/-- R130, R408, R407: at a boundary where no interrupt is accepted, a step is the decoded instruction's effect on the state with PC
past its bytes; around it, `pollI` takes I (the old I after CLI, SEI and PLP), an NMI request that arrived is latched unless BRK
consumed it, and the cycle count is returned. -/
def Obligations.StepRunsTheFetchedInstruction : Prop :=
  ∀ (s t : State) (i : Instr), Executes s → fetched s = .instr i →
    let s1 := { s with pc := s.pc + BitVec.ofNat 16 i.length }
    exec i s1 = .next t →
    step s = .next { t with
      pollI := if i.op = .cli ∨ i.op = .sei ∨ i.op = .plp then s.p.i else t.p.i
      nmiPending := t.nmiPending || (s.nmiEarly && !decide (i.op = .brk))
      nmiEarly := false
      cycles := i.cycles s1 }

/-- R13, R61, R62, R400 and the end of spec/93's Part 1: every step answers a next state, from every state; no access fails, no defined
instruction faults and no input is refused. That a step which fetches an undefined opcode answers a next state too is the model's
choice (log 6): R409 calls it a fault outcome for a model. -/
def Obligations.EveryStepAnswersANextState : Prop :=
  ∀ s : State, ∃ t, step s = .next t

/-- R31, R39, R45: the state right after reset meets the invariant. -/
def Obligations.ResetStateMeetsTheInvariant : Prop :=
  Inv State.reset

/-- R31, R39, R62: every step, of an instruction, an interrupt entry, a fault or a host call, keeps the invariant: canonical memory,
the stored B at 0, and a fault latch that names an undefined opcode byte. -/
def Obligations.EveryStepKeepsTheInvariant : Prop :=
  ∀ s t : State, Inv s → step s = .next t → Inv t

/-- R409, R105: fetching an undefined opcode puts PC back at the byte, latches its address and value, halts the core and returns 0
cycles; an NMI request of the same step is latched and nothing else changes. -/
def Obligations.UndefinedOpcodeRaisesTheDecodeFault : Prop :=
  ∀ s : State, Executes s → s.read s.pc ∈ undefinedOpcodes →
    step s = .next { s with
      fault := some (.decodeFault s.pc (s.read s.pc)), run := .halted
      nmiPending := s.nmiEarly, nmiEarly := false, cycles := 0 }

/-- R409, decision D22: after a decode fault, halt_resume() and the next step fetch the same byte and fault again. That each of the two
faulting steps answers a next state is the model's choice (log 6): R409 calls it a fault outcome for a model. -/
def Obligations.ResumeAfterAFaultFaultsAgain : Prop :=
  ∀ s : State, Executes s → s.nmiEarly = false → s.read s.pc ∈ undefinedOpcodes →
    ∃ t, step s = .next t ∧ step t.haltResume = .next t

/-- R37, R403, R417: while Halted a step changes nothing, costs 0 cycles, and only latches an NMI request. -/
def Obligations.HaltedStepOnlyLatchesNmi : Prop :=
  ∀ s : State, s.host = [] → s.run = .halted →
    step s = .next { s with nmiPending := s.nmiPending || s.nmiEarly, nmiEarly := false, cycles := 0 }

/-- R37, R417: Halted is entered by halt_resume() or a decode fault only, and left by halt_resume() or reset() only. -/
def Obligations.RunStateChangesOnlyByHostOrFault : Prop :=
  ∀ s t : State, step s = .next t →
    (s.run = .running → t.run = .halted →
      (∃ rest, s.host = .haltResume :: rest) ∨ t.fault = some (.decodeFault s.pc (s.read s.pc))) ∧
    (s.run = .halted → t.run = .running →
      (∃ rest, s.host = .haltResume :: rest) ∨ ∃ draw rest, s.host = .reset draw :: rest)

/-- R39: once a fault is latched, only reset() clears the latch. -/
def Obligations.OnlyResetClearsTheFaultLatch : Prop :=
  ∀ s t : State, step s = .next t → s.fault ≠ none → t.fault = none → ∃ draw rest, s.host = .reset draw :: rest

/-! ## Interrupts -/

/-- R404, R405, R130: a pending NMI is taken before an IRQ and whatever I and `pollI` are: it pushes PC and the status byte with
B = 0, sets I and `pollI`, clears the latch but for a further request, and loads PC from 0xFFFA; 7 cycles. -/
def Obligations.NmiEntryStep : Prop :=
  ∀ s : State, s.mem.wf = true → s.host = [] → s.run = .running → s.nmiPending = true →
    ∃ t, step s = .next t ∧
      t = { s with
        sp := s.sp - 3#8, mem := t.mem, p := { s.p with i := true }, pc := s.read16 0xFFFA#16
        pollI := true, nmiPending := s.nmiEarly, nmiEarly := false, cycles := 7 } ∧
      PushesThree s t (BitVec.ofNat 8 (s.pc.toNat / 256)) (BitVec.ofNat 8 s.pc.toNat) (packP s.p false)

/-- R402, R404, R405, R407: an IRQ that `pollI` does not mask is taken when no NMI is pending: it pushes PC and the status byte with
B = 0, sets I and `pollI`, and loads PC from 0xFFFE, or from 0xFFFA when an NMI request hijacks it, which it consumes; 7 cycles.
The line is left as the host drives it. -/
def Obligations.IrqEntryStep : Prop :=
  ∀ s : State, s.mem.wf = true → s.host = [] → s.run = .running → s.nmiPending = false → s.irq = true → s.pollI = false →
    ∃ t, step s = .next t ∧
      t = { s with
        sp := s.sp - 3#8, mem := t.mem, p := { s.p with i := true }
        pc := s.read16 (if s.nmiEarly then 0xFFFA#16 else 0xFFFE#16)
        pollI := true, nmiPending := false, nmiEarly := false, cycles := 7 } ∧
      PushesThree s t (BitVec.ofNat 8 (s.pc.toNat / 256)) (BitVec.ofNat 8 s.pc.toNat) (packP s.p false)

/-- R382, R408, R531: with an IRQ asserted and I = 1, the instruction after CLI still runs, and the IRQ is taken after it, from the
state `u` that the instruction leaves, if it leaves I at 0. After SEI and PLP it is taken whatever I they leave, since the test after
them uses CLI's I = 0. -/
def Obligations.IrqIsTakenOneInstructionAfterCli : Prop :=
  ∀ (s u : State) (i : Instr), s.mem.wf = true → Executes s → s.irq = true → s.nmiEarly = false → s.p.i = true →
    s.read s.pc = 0x58#8 →
    let afterCli := { s with pc := s.pc + 1#16, p := { s.p with i := false }, cycles := 2 }
    fetched afterCli = .instr i → exec i { afterCli with pc := afterCli.pc + BitVec.ofNat 16 i.length } = .next u →
    u.p.i = false ∨ i.op = .sei ∨ i.op = .plp →
    ∃ t, core.run 3 s = .next t ∧ t.pc = u.read16 0xFFFE#16 ∧ t.p = { u.p with i := true } ∧ t.sp = u.sp - 3#8 ∧
      t.a = u.a ∧ t.x = u.x ∧ t.y = u.y ∧
      PushesThree u t (BitVec.ofNat 8 (u.pc.toNat / 256)) (BitVec.ofNat 8 u.pc.toNat) (packP u.p false)

/-- R383, R408, R531: with I = 0, an IRQ that the host asserts during SEI is still taken right after it, with I = 1 in the pushed
status byte. -/
def Obligations.IrqIsStillTakenRightAfterSei : Prop :=
  ∀ s : State, s.mem.wf = true → s.run = .running → s.nmiPending = false → s.irq = false → s.p.i = false →
    s.host = [.step false, .driveIrq true, .step false] → s.read s.pc = 0x78#8 →
    ∃ t, core.run 3 s = .next t ∧ t.pc = s.read16 0xFFFE#16 ∧ t.p = { s.p with i := true } ∧ t.sp = s.sp - 3#8 ∧
      PushesThree s t (BitVec.ofNat 8 ((s.pc + 1#16).toNat / 256)) (BitVec.ofNat 8 (s.pc + 1#16).toNat)
        (packP { s.p with i := true } false)

/-! ## Reset and the host's other calls -/

/-- R500, R45: reset() at any boundary, in either run state and whatever is latched: PC from 0xFFFC, S = 0xFD, I = 1, B = 0, Running,
the latches clear, `pollI` = 1, memory unchanged; A, X, Y, N, V, D, Z and C take the values it draws. The call is one of the model's
own schedule (log 7); that it leaves the inputs `irq` and `nmiEarly` as they are is DEDUCED (log 8). -/
def Obligations.HostResetSequence : Prop :=
  ∀ (s : State) (draw : ResetDraw) (rest : List HostCall), s.host = .reset draw :: rest →
    step s = .next { s with
      pc := s.read16 0xFFFC#16, sp := 0xFD#8, a := draw.a, x := draw.x, y := draw.y
      p := ⟨draw.n, draw.v, false, draw.d, true, draw.z, draw.c⟩
      run := .running, fault := none, nmiPending := false, pollI := true, host := rest }

/-- R44, R45, R502: new(memory) leaves the core Running at 0x0000 with the registers and flags drawn, B = 0, no fault, no pending NMI
and `pollI` the drawn I; the levels of the host's inputs there are the model's choice (log 8), and this says nothing of them. The
state right after reset over memory that lists nothing has the values the rules give: PC is the word at 0xFFFC, S = 0xFD, I = 1,
B = 0, Running, latches clear, `pollI` = 1. It is what new() and then reset() leave when every draw is zero, which is the model's
choice (log 2, log 3). -/
def Obligations.ResetStateIsNewThenReset : Prop :=
  (∀ (mode : DecimalMode) (mem : Memory) (draw : NewDraw),
    let s := State.new mode mem draw
    s.pc = 0x0000#16 ∧ s.run = .running ∧ s.a = draw.a ∧ s.x = draw.x ∧ s.y = draw.y ∧ s.sp = draw.sp ∧
    s.p = ⟨draw.n, draw.v, false, draw.d, draw.i, draw.z, draw.c⟩ ∧ s.fault = none ∧ s.nmiPending = false ∧
    s.pollI = draw.i ∧ s.mem = mem ∧ s.decimalMode = mode) ∧
  (∀ draw : NewDraw, State.reset = (State.new .nmosBcd [] draw).resetWith ⟨0#8, 0#8, 0#8, false, false, false, false, false⟩) ∧
  State.reset.pc = State.reset.read16 0xFFFC#16 ∧ State.reset.sp = 0xFD#8 ∧ State.reset.p.i = true ∧
  State.reset.p.b = false ∧ State.reset.run = .running ∧ State.reset.fault = none ∧ State.reset.nmiPending = false ∧
  State.reset.pollI = true

/-- R37, R402, R403, R418, W6: halt_resume() toggles the run state and nothing else; two of them with halted steps between leave
the state as it was but for the returned count; an NMI request sets the latch; driving the line sets its level; loading a byte
writes that byte (at any boundary: the model's choice, log 13). -/
def Obligations.HostCallsChangeTheirOneThing : Prop :=
  ∀ (s : State) (rest : List HostCall) (level : Bool) (addr : Word) (v : Byte),
    (s.host = .haltResume :: rest →
      step s = .next { s with host := rest, run := if s.run = .running then .halted else .running }) ∧
    (s.host = .nmiRequest :: rest → step s = .next { s with host := rest, nmiPending := true }) ∧
    (s.host = .driveIrq level :: rest → step s = .next { s with host := rest, irq := level }) ∧
    (s.host = .load addr [v] :: rest → s.mem.wf = true →
      ∃ t, step s = .next t ∧ t = { s with host := rest, mem := t.mem } ∧ WritesByte s t addr v) ∧
    (s.run = .running → s.host = [.haltResume, .step false, .step false, .haltResume] →
      core.run 4 s = .next { s with host := [], nmiEarly := false, cycles := 0 })

/-- R130, R418: a scheduled step(irq, nmiEarly) is the step of the same core with that `nmiEarly` and nothing scheduled, and leaves
the rest of the schedule. The schedule and the two inputs as fields of the state are the model's own (log 7, log 8). -/
def Obligations.ScheduledStepIsTheStepWithItsInput : Prop :=
  ∀ (s : State) (e : Bool) (rest : List HostCall), s.host = .step e :: rest →
    ∃ t, step { s with host := [], nmiEarly := e } = .next t ∧ step s = .next { t with host := rest }

/-! ## Timing -/

/-- R510, R511 with the base cycles of R103, by class and mode: operand readers, stores, read-modify-writes, branches and the implied
instructions. Only operand readers in abs,X, abs,Y and (zp),Y pay for a page crossing. -/
def Obligations.CycleCountsByClassAndMode : Prop :=
  ∀ (i : Instr) (s : State),
    let crossing := (match i.operand with
      | some (.loc (.mem m)) => (m.crossed s).toNat
      | some (.loc .acc) => 0
      | some (.imm _) => 0
      | none => 0)
    let readers := [Op.lda, .ldx, .ldy, .adc, .sbc, .and, .ora, .eor, .bit, .cmp, .cpx, .cpy]
    let stores := [Op.sta, .stx, .sty]
    let modifies := [Op.asl, .lsr, .rol, .ror, .inc, .dec]
    let implied := [Op.inx, .iny, .dex, .dey, .tax, .tay, .txa, .tya, .tsx, .txs, .clc, .sec, .cli, .sei, .cld, .sed, .clv, .nop]
    (i.mode = .imm → i.cycles s = 2) ∧
    (i.op ∈ readers ∨ i.op ∈ stores → i.mode = .zp → i.cycles s = 3) ∧
    (i.op ∈ readers ∨ i.op ∈ stores → i.mode = .zpX ∨ i.mode = .zpY ∨ i.mode = .abs → i.cycles s = 4) ∧
    (i.op ∈ readers ∨ i.op ∈ stores → i.mode = .indX → i.cycles s = 6) ∧
    (i.op ∈ readers → i.mode = .absX ∨ i.mode = .absY → i.cycles s = 4 + crossing) ∧
    (i.op ∈ readers → i.mode = .indY → i.cycles s = 5 + crossing) ∧
    (i.op ∈ stores → i.mode = .absX ∨ i.mode = .absY → i.cycles s = 5) ∧
    (i.op ∈ stores → i.mode = .indY → i.cycles s = 6) ∧
    (i.mode = .acc ∨ i.op ∈ implied → i.cycles s = 2) ∧
    (i.op ∈ modifies → (i.mode = .zp → i.cycles s = 5) ∧ (i.mode = .zpX ∨ i.mode = .abs → i.cycles s = 6) ∧
      (i.mode = .absX → i.cycles s = 7)) ∧
    (i.mode = .rel → i.cycles s = 2 + (i.taken s).toNat + (i.taken s && decide (crossing = 1)).toNat) ∧
    (i.op = .pha ∨ i.op = .php → i.cycles s = 3) ∧ (i.op = .pla ∨ i.op = .plp → i.cycles s = 4) ∧
    (i.op = .jmp → i.cycles s = if i.mode = .ind then 5 else 3) ∧
    (i.op = .jsr ∨ i.op = .rts ∨ i.op = .rti → i.cycles s = 6) ∧ (i.op = .brk → i.cycles s = 7)

/-- R123: abs,X, abs,Y, (zp),Y and the branches report a page crossing when the high byte of the address the index (or the
displacement) is added to differs from that of the effective address; no other mode does. -/
def Obligations.PageCrossingComparesBaseAndTarget : Prop :=
  ∀ (s : State) (a : Word) (z : Byte),
    let page (w : Word) : Nat := w.toNat / 256
    (AddrMode.absX a).crossed s = decide (page a ≠ (a.toNat + s.x.toNat) % 65536 / 256) ∧
    (AddrMode.absY a).crossed s = decide (page a ≠ (a.toNat + s.y.toNat) % 65536 / 256) ∧
    (AddrMode.indY z).crossed s =
      decide (page (s.read16ZP z) ≠ ((s.read16ZP z).toNat + s.y.toNat) % 65536 / 256) ∧
    (AddrMode.rel z).crossed s = decide (page s.pc ≠ page (s.pc + z.signExtend 16)) ∧
    (AddrMode.zp z).crossed s = false ∧ (AddrMode.zpX z).crossed s = false ∧ (AddrMode.zpY z).crossed s = false ∧
    (AddrMode.abs a).crossed s = false ∧ (AddrMode.ind a).crossed s = false ∧ (AddrMode.indX z).crossed s = false
end

