-- ==== Sys2Proof/Laws/State.lean ====
section
/-! SUPPORT. One lemma for each field after each named update of State, so that no proof unfolds a record update. -/

namespace Sys2Proof.Machine.State

section setA
variable (s : State) (v : Byte)
@[simp] theorem setA_a : (s.setA v).a = v := rfl
@[simp] theorem setA_x : (s.setA v).x = s.x := rfl
@[simp] theorem setA_y : (s.setA v).y = s.y := rfl
@[simp] theorem setA_sp : (s.setA v).sp = s.sp := rfl
@[simp] theorem setA_pc : (s.setA v).pc = s.pc := rfl
@[simp] theorem setA_p : (s.setA v).p = s.p := rfl
@[simp] theorem setA_run : (s.setA v).run = s.run := rfl
@[simp] theorem setA_fault : (s.setA v).fault = s.fault := rfl
@[simp] theorem setA_nmiPending : (s.setA v).nmiPending = s.nmiPending := rfl
@[simp] theorem setA_pollI : (s.setA v).pollI = s.pollI := rfl
@[simp] theorem setA_mem : (s.setA v).mem = s.mem := rfl
@[simp] theorem setA_decimalMode : (s.setA v).decimalMode = s.decimalMode := rfl
@[simp] theorem setA_irq : (s.setA v).irq = s.irq := rfl
@[simp] theorem setA_nmiEarly : (s.setA v).nmiEarly = s.nmiEarly := rfl
@[simp] theorem setA_host : (s.setA v).host = s.host := rfl
@[simp] theorem setA_cycles : (s.setA v).cycles = s.cycles := rfl
end setA

section setX
variable (s : State) (v : Byte)
@[simp] theorem setX_a : (s.setX v).a = s.a := rfl
@[simp] theorem setX_x : (s.setX v).x = v := rfl
@[simp] theorem setX_y : (s.setX v).y = s.y := rfl
@[simp] theorem setX_sp : (s.setX v).sp = s.sp := rfl
@[simp] theorem setX_pc : (s.setX v).pc = s.pc := rfl
@[simp] theorem setX_p : (s.setX v).p = s.p := rfl
@[simp] theorem setX_run : (s.setX v).run = s.run := rfl
@[simp] theorem setX_fault : (s.setX v).fault = s.fault := rfl
@[simp] theorem setX_nmiPending : (s.setX v).nmiPending = s.nmiPending := rfl
@[simp] theorem setX_pollI : (s.setX v).pollI = s.pollI := rfl
@[simp] theorem setX_mem : (s.setX v).mem = s.mem := rfl
@[simp] theorem setX_decimalMode : (s.setX v).decimalMode = s.decimalMode := rfl
@[simp] theorem setX_irq : (s.setX v).irq = s.irq := rfl
@[simp] theorem setX_nmiEarly : (s.setX v).nmiEarly = s.nmiEarly := rfl
@[simp] theorem setX_host : (s.setX v).host = s.host := rfl
@[simp] theorem setX_cycles : (s.setX v).cycles = s.cycles := rfl
end setX

section setY
variable (s : State) (v : Byte)
@[simp] theorem setY_a : (s.setY v).a = s.a := rfl
@[simp] theorem setY_x : (s.setY v).x = s.x := rfl
@[simp] theorem setY_y : (s.setY v).y = v := rfl
@[simp] theorem setY_sp : (s.setY v).sp = s.sp := rfl
@[simp] theorem setY_pc : (s.setY v).pc = s.pc := rfl
@[simp] theorem setY_p : (s.setY v).p = s.p := rfl
@[simp] theorem setY_run : (s.setY v).run = s.run := rfl
@[simp] theorem setY_fault : (s.setY v).fault = s.fault := rfl
@[simp] theorem setY_nmiPending : (s.setY v).nmiPending = s.nmiPending := rfl
@[simp] theorem setY_pollI : (s.setY v).pollI = s.pollI := rfl
@[simp] theorem setY_mem : (s.setY v).mem = s.mem := rfl
@[simp] theorem setY_decimalMode : (s.setY v).decimalMode = s.decimalMode := rfl
@[simp] theorem setY_irq : (s.setY v).irq = s.irq := rfl
@[simp] theorem setY_nmiEarly : (s.setY v).nmiEarly = s.nmiEarly := rfl
@[simp] theorem setY_host : (s.setY v).host = s.host := rfl
@[simp] theorem setY_cycles : (s.setY v).cycles = s.cycles := rfl
end setY

section setSp
variable (s : State) (v : Byte)
@[simp] theorem setSp_a : (s.setSp v).a = s.a := rfl
@[simp] theorem setSp_x : (s.setSp v).x = s.x := rfl
@[simp] theorem setSp_y : (s.setSp v).y = s.y := rfl
@[simp] theorem setSp_sp : (s.setSp v).sp = v := rfl
@[simp] theorem setSp_pc : (s.setSp v).pc = s.pc := rfl
@[simp] theorem setSp_p : (s.setSp v).p = s.p := rfl
@[simp] theorem setSp_run : (s.setSp v).run = s.run := rfl
@[simp] theorem setSp_fault : (s.setSp v).fault = s.fault := rfl
@[simp] theorem setSp_nmiPending : (s.setSp v).nmiPending = s.nmiPending := rfl
@[simp] theorem setSp_pollI : (s.setSp v).pollI = s.pollI := rfl
@[simp] theorem setSp_mem : (s.setSp v).mem = s.mem := rfl
@[simp] theorem setSp_decimalMode : (s.setSp v).decimalMode = s.decimalMode := rfl
@[simp] theorem setSp_irq : (s.setSp v).irq = s.irq := rfl
@[simp] theorem setSp_nmiEarly : (s.setSp v).nmiEarly = s.nmiEarly := rfl
@[simp] theorem setSp_host : (s.setSp v).host = s.host := rfl
@[simp] theorem setSp_cycles : (s.setSp v).cycles = s.cycles := rfl
end setSp

section setPc
variable (s : State) (v : Word)
@[simp] theorem setPc_a : (s.setPc v).a = s.a := rfl
@[simp] theorem setPc_x : (s.setPc v).x = s.x := rfl
@[simp] theorem setPc_y : (s.setPc v).y = s.y := rfl
@[simp] theorem setPc_sp : (s.setPc v).sp = s.sp := rfl
@[simp] theorem setPc_pc : (s.setPc v).pc = v := rfl
@[simp] theorem setPc_p : (s.setPc v).p = s.p := rfl
@[simp] theorem setPc_run : (s.setPc v).run = s.run := rfl
@[simp] theorem setPc_fault : (s.setPc v).fault = s.fault := rfl
@[simp] theorem setPc_nmiPending : (s.setPc v).nmiPending = s.nmiPending := rfl
@[simp] theorem setPc_pollI : (s.setPc v).pollI = s.pollI := rfl
@[simp] theorem setPc_mem : (s.setPc v).mem = s.mem := rfl
@[simp] theorem setPc_decimalMode : (s.setPc v).decimalMode = s.decimalMode := rfl
@[simp] theorem setPc_irq : (s.setPc v).irq = s.irq := rfl
@[simp] theorem setPc_nmiEarly : (s.setPc v).nmiEarly = s.nmiEarly := rfl
@[simp] theorem setPc_host : (s.setPc v).host = s.host := rfl
@[simp] theorem setPc_cycles : (s.setPc v).cycles = s.cycles := rfl
end setPc

section setP
variable (s : State) (v : Flags)
@[simp] theorem setP_a : (s.setP v).a = s.a := rfl
@[simp] theorem setP_x : (s.setP v).x = s.x := rfl
@[simp] theorem setP_y : (s.setP v).y = s.y := rfl
@[simp] theorem setP_sp : (s.setP v).sp = s.sp := rfl
@[simp] theorem setP_pc : (s.setP v).pc = s.pc := rfl
@[simp] theorem setP_p : (s.setP v).p = v := rfl
@[simp] theorem setP_run : (s.setP v).run = s.run := rfl
@[simp] theorem setP_fault : (s.setP v).fault = s.fault := rfl
@[simp] theorem setP_nmiPending : (s.setP v).nmiPending = s.nmiPending := rfl
@[simp] theorem setP_pollI : (s.setP v).pollI = s.pollI := rfl
@[simp] theorem setP_mem : (s.setP v).mem = s.mem := rfl
@[simp] theorem setP_decimalMode : (s.setP v).decimalMode = s.decimalMode := rfl
@[simp] theorem setP_irq : (s.setP v).irq = s.irq := rfl
@[simp] theorem setP_nmiEarly : (s.setP v).nmiEarly = s.nmiEarly := rfl
@[simp] theorem setP_host : (s.setP v).host = s.host := rfl
@[simp] theorem setP_cycles : (s.setP v).cycles = s.cycles := rfl
end setP

section setRun
variable (s : State) (v : RunState)
@[simp] theorem setRun_a : (s.setRun v).a = s.a := rfl
@[simp] theorem setRun_x : (s.setRun v).x = s.x := rfl
@[simp] theorem setRun_y : (s.setRun v).y = s.y := rfl
@[simp] theorem setRun_sp : (s.setRun v).sp = s.sp := rfl
@[simp] theorem setRun_pc : (s.setRun v).pc = s.pc := rfl
@[simp] theorem setRun_p : (s.setRun v).p = s.p := rfl
@[simp] theorem setRun_run : (s.setRun v).run = v := rfl
@[simp] theorem setRun_fault : (s.setRun v).fault = s.fault := rfl
@[simp] theorem setRun_nmiPending : (s.setRun v).nmiPending = s.nmiPending := rfl
@[simp] theorem setRun_pollI : (s.setRun v).pollI = s.pollI := rfl
@[simp] theorem setRun_mem : (s.setRun v).mem = s.mem := rfl
@[simp] theorem setRun_decimalMode : (s.setRun v).decimalMode = s.decimalMode := rfl
@[simp] theorem setRun_irq : (s.setRun v).irq = s.irq := rfl
@[simp] theorem setRun_nmiEarly : (s.setRun v).nmiEarly = s.nmiEarly := rfl
@[simp] theorem setRun_host : (s.setRun v).host = s.host := rfl
@[simp] theorem setRun_cycles : (s.setRun v).cycles = s.cycles := rfl
end setRun

section setFault
variable (s : State) (v : Option Fault)
@[simp] theorem setFault_a : (s.setFault v).a = s.a := rfl
@[simp] theorem setFault_x : (s.setFault v).x = s.x := rfl
@[simp] theorem setFault_y : (s.setFault v).y = s.y := rfl
@[simp] theorem setFault_sp : (s.setFault v).sp = s.sp := rfl
@[simp] theorem setFault_pc : (s.setFault v).pc = s.pc := rfl
@[simp] theorem setFault_p : (s.setFault v).p = s.p := rfl
@[simp] theorem setFault_run : (s.setFault v).run = s.run := rfl
@[simp] theorem setFault_fault : (s.setFault v).fault = v := rfl
@[simp] theorem setFault_nmiPending : (s.setFault v).nmiPending = s.nmiPending := rfl
@[simp] theorem setFault_pollI : (s.setFault v).pollI = s.pollI := rfl
@[simp] theorem setFault_mem : (s.setFault v).mem = s.mem := rfl
@[simp] theorem setFault_decimalMode : (s.setFault v).decimalMode = s.decimalMode := rfl
@[simp] theorem setFault_irq : (s.setFault v).irq = s.irq := rfl
@[simp] theorem setFault_nmiEarly : (s.setFault v).nmiEarly = s.nmiEarly := rfl
@[simp] theorem setFault_host : (s.setFault v).host = s.host := rfl
@[simp] theorem setFault_cycles : (s.setFault v).cycles = s.cycles := rfl
end setFault

section setNmiPending
variable (s : State) (v : Bool)
@[simp] theorem setNmiPending_a : (s.setNmiPending v).a = s.a := rfl
@[simp] theorem setNmiPending_x : (s.setNmiPending v).x = s.x := rfl
@[simp] theorem setNmiPending_y : (s.setNmiPending v).y = s.y := rfl
@[simp] theorem setNmiPending_sp : (s.setNmiPending v).sp = s.sp := rfl
@[simp] theorem setNmiPending_pc : (s.setNmiPending v).pc = s.pc := rfl
@[simp] theorem setNmiPending_p : (s.setNmiPending v).p = s.p := rfl
@[simp] theorem setNmiPending_run : (s.setNmiPending v).run = s.run := rfl
@[simp] theorem setNmiPending_fault : (s.setNmiPending v).fault = s.fault := rfl
@[simp] theorem setNmiPending_nmiPending : (s.setNmiPending v).nmiPending = v := rfl
@[simp] theorem setNmiPending_pollI : (s.setNmiPending v).pollI = s.pollI := rfl
@[simp] theorem setNmiPending_mem : (s.setNmiPending v).mem = s.mem := rfl
@[simp] theorem setNmiPending_decimalMode : (s.setNmiPending v).decimalMode = s.decimalMode := rfl
@[simp] theorem setNmiPending_irq : (s.setNmiPending v).irq = s.irq := rfl
@[simp] theorem setNmiPending_nmiEarly : (s.setNmiPending v).nmiEarly = s.nmiEarly := rfl
@[simp] theorem setNmiPending_host : (s.setNmiPending v).host = s.host := rfl
@[simp] theorem setNmiPending_cycles : (s.setNmiPending v).cycles = s.cycles := rfl
end setNmiPending

section setPollI
variable (s : State) (v : Bool)
@[simp] theorem setPollI_a : (s.setPollI v).a = s.a := rfl
@[simp] theorem setPollI_x : (s.setPollI v).x = s.x := rfl
@[simp] theorem setPollI_y : (s.setPollI v).y = s.y := rfl
@[simp] theorem setPollI_sp : (s.setPollI v).sp = s.sp := rfl
@[simp] theorem setPollI_pc : (s.setPollI v).pc = s.pc := rfl
@[simp] theorem setPollI_p : (s.setPollI v).p = s.p := rfl
@[simp] theorem setPollI_run : (s.setPollI v).run = s.run := rfl
@[simp] theorem setPollI_fault : (s.setPollI v).fault = s.fault := rfl
@[simp] theorem setPollI_nmiPending : (s.setPollI v).nmiPending = s.nmiPending := rfl
@[simp] theorem setPollI_pollI : (s.setPollI v).pollI = v := rfl
@[simp] theorem setPollI_mem : (s.setPollI v).mem = s.mem := rfl
@[simp] theorem setPollI_decimalMode : (s.setPollI v).decimalMode = s.decimalMode := rfl
@[simp] theorem setPollI_irq : (s.setPollI v).irq = s.irq := rfl
@[simp] theorem setPollI_nmiEarly : (s.setPollI v).nmiEarly = s.nmiEarly := rfl
@[simp] theorem setPollI_host : (s.setPollI v).host = s.host := rfl
@[simp] theorem setPollI_cycles : (s.setPollI v).cycles = s.cycles := rfl
end setPollI

section setMem
variable (s : State) (v : Memory)
@[simp] theorem setMem_a : (s.setMem v).a = s.a := rfl
@[simp] theorem setMem_x : (s.setMem v).x = s.x := rfl
@[simp] theorem setMem_y : (s.setMem v).y = s.y := rfl
@[simp] theorem setMem_sp : (s.setMem v).sp = s.sp := rfl
@[simp] theorem setMem_pc : (s.setMem v).pc = s.pc := rfl
@[simp] theorem setMem_p : (s.setMem v).p = s.p := rfl
@[simp] theorem setMem_run : (s.setMem v).run = s.run := rfl
@[simp] theorem setMem_fault : (s.setMem v).fault = s.fault := rfl
@[simp] theorem setMem_nmiPending : (s.setMem v).nmiPending = s.nmiPending := rfl
@[simp] theorem setMem_pollI : (s.setMem v).pollI = s.pollI := rfl
@[simp] theorem setMem_mem : (s.setMem v).mem = v := rfl
@[simp] theorem setMem_decimalMode : (s.setMem v).decimalMode = s.decimalMode := rfl
@[simp] theorem setMem_irq : (s.setMem v).irq = s.irq := rfl
@[simp] theorem setMem_nmiEarly : (s.setMem v).nmiEarly = s.nmiEarly := rfl
@[simp] theorem setMem_host : (s.setMem v).host = s.host := rfl
@[simp] theorem setMem_cycles : (s.setMem v).cycles = s.cycles := rfl
end setMem

section setIrq
variable (s : State) (v : Bool)
@[simp] theorem setIrq_a : (s.setIrq v).a = s.a := rfl
@[simp] theorem setIrq_x : (s.setIrq v).x = s.x := rfl
@[simp] theorem setIrq_y : (s.setIrq v).y = s.y := rfl
@[simp] theorem setIrq_sp : (s.setIrq v).sp = s.sp := rfl
@[simp] theorem setIrq_pc : (s.setIrq v).pc = s.pc := rfl
@[simp] theorem setIrq_p : (s.setIrq v).p = s.p := rfl
@[simp] theorem setIrq_run : (s.setIrq v).run = s.run := rfl
@[simp] theorem setIrq_fault : (s.setIrq v).fault = s.fault := rfl
@[simp] theorem setIrq_nmiPending : (s.setIrq v).nmiPending = s.nmiPending := rfl
@[simp] theorem setIrq_pollI : (s.setIrq v).pollI = s.pollI := rfl
@[simp] theorem setIrq_mem : (s.setIrq v).mem = s.mem := rfl
@[simp] theorem setIrq_decimalMode : (s.setIrq v).decimalMode = s.decimalMode := rfl
@[simp] theorem setIrq_irq : (s.setIrq v).irq = v := rfl
@[simp] theorem setIrq_nmiEarly : (s.setIrq v).nmiEarly = s.nmiEarly := rfl
@[simp] theorem setIrq_host : (s.setIrq v).host = s.host := rfl
@[simp] theorem setIrq_cycles : (s.setIrq v).cycles = s.cycles := rfl
end setIrq

section setNmiEarly
variable (s : State) (v : Bool)
@[simp] theorem setNmiEarly_a : (s.setNmiEarly v).a = s.a := rfl
@[simp] theorem setNmiEarly_x : (s.setNmiEarly v).x = s.x := rfl
@[simp] theorem setNmiEarly_y : (s.setNmiEarly v).y = s.y := rfl
@[simp] theorem setNmiEarly_sp : (s.setNmiEarly v).sp = s.sp := rfl
@[simp] theorem setNmiEarly_pc : (s.setNmiEarly v).pc = s.pc := rfl
@[simp] theorem setNmiEarly_p : (s.setNmiEarly v).p = s.p := rfl
@[simp] theorem setNmiEarly_run : (s.setNmiEarly v).run = s.run := rfl
@[simp] theorem setNmiEarly_fault : (s.setNmiEarly v).fault = s.fault := rfl
@[simp] theorem setNmiEarly_nmiPending : (s.setNmiEarly v).nmiPending = s.nmiPending := rfl
@[simp] theorem setNmiEarly_pollI : (s.setNmiEarly v).pollI = s.pollI := rfl
@[simp] theorem setNmiEarly_mem : (s.setNmiEarly v).mem = s.mem := rfl
@[simp] theorem setNmiEarly_decimalMode : (s.setNmiEarly v).decimalMode = s.decimalMode := rfl
@[simp] theorem setNmiEarly_irq : (s.setNmiEarly v).irq = s.irq := rfl
@[simp] theorem setNmiEarly_nmiEarly : (s.setNmiEarly v).nmiEarly = v := rfl
@[simp] theorem setNmiEarly_host : (s.setNmiEarly v).host = s.host := rfl
@[simp] theorem setNmiEarly_cycles : (s.setNmiEarly v).cycles = s.cycles := rfl
end setNmiEarly

section setHost
variable (s : State) (v : List HostCall)
@[simp] theorem setHost_a : (s.setHost v).a = s.a := rfl
@[simp] theorem setHost_x : (s.setHost v).x = s.x := rfl
@[simp] theorem setHost_y : (s.setHost v).y = s.y := rfl
@[simp] theorem setHost_sp : (s.setHost v).sp = s.sp := rfl
@[simp] theorem setHost_pc : (s.setHost v).pc = s.pc := rfl
@[simp] theorem setHost_p : (s.setHost v).p = s.p := rfl
@[simp] theorem setHost_run : (s.setHost v).run = s.run := rfl
@[simp] theorem setHost_fault : (s.setHost v).fault = s.fault := rfl
@[simp] theorem setHost_nmiPending : (s.setHost v).nmiPending = s.nmiPending := rfl
@[simp] theorem setHost_pollI : (s.setHost v).pollI = s.pollI := rfl
@[simp] theorem setHost_mem : (s.setHost v).mem = s.mem := rfl
@[simp] theorem setHost_decimalMode : (s.setHost v).decimalMode = s.decimalMode := rfl
@[simp] theorem setHost_irq : (s.setHost v).irq = s.irq := rfl
@[simp] theorem setHost_nmiEarly : (s.setHost v).nmiEarly = s.nmiEarly := rfl
@[simp] theorem setHost_host : (s.setHost v).host = v := rfl
@[simp] theorem setHost_cycles : (s.setHost v).cycles = s.cycles := rfl
end setHost

section setCycles
variable (s : State) (v : Nat)
@[simp] theorem setCycles_a : (s.setCycles v).a = s.a := rfl
@[simp] theorem setCycles_x : (s.setCycles v).x = s.x := rfl
@[simp] theorem setCycles_y : (s.setCycles v).y = s.y := rfl
@[simp] theorem setCycles_sp : (s.setCycles v).sp = s.sp := rfl
@[simp] theorem setCycles_pc : (s.setCycles v).pc = s.pc := rfl
@[simp] theorem setCycles_p : (s.setCycles v).p = s.p := rfl
@[simp] theorem setCycles_run : (s.setCycles v).run = s.run := rfl
@[simp] theorem setCycles_fault : (s.setCycles v).fault = s.fault := rfl
@[simp] theorem setCycles_nmiPending : (s.setCycles v).nmiPending = s.nmiPending := rfl
@[simp] theorem setCycles_pollI : (s.setCycles v).pollI = s.pollI := rfl
@[simp] theorem setCycles_mem : (s.setCycles v).mem = s.mem := rfl
@[simp] theorem setCycles_decimalMode : (s.setCycles v).decimalMode = s.decimalMode := rfl
@[simp] theorem setCycles_irq : (s.setCycles v).irq = s.irq := rfl
@[simp] theorem setCycles_nmiEarly : (s.setCycles v).nmiEarly = s.nmiEarly := rfl
@[simp] theorem setCycles_host : (s.setCycles v).host = s.host := rfl
@[simp] theorem setCycles_cycles : (s.setCycles v).cycles = v := rfl
end setCycles

end Sys2Proof.Machine.State
end

