-- ==== Sys2Proof/Laws/Memory.lean ====
section
/-! SUPPORT. The laws of memory as a list in canonical form (spec/20_memory.md R61 to R63). -/

namespace Sys2Proof.Machine

namespace Memory

theorem byteAt_of_lt {lo : Nat} {m : Memory} (h : m.wfFrom lo = true) {a : Nat} (ha : a < lo) :
    m.byteAt a = Config.unlistedByte := by
  induction m generalizing lo with
  | nil => rfl
  | cons c m ih =>
    obtain ⟨k, w⟩ := c
    simp only [wfFrom, Bool.and_eq_true, decide_eq_true_eq] at h
    have hk : k ≠ a := by omega
    simp only [byteAt, hk, if_false]
    exact ih h.2 (by omega)

theorem wfFrom_mono {lo lo' : Nat} {m : Memory} (h : m.wfFrom lo = true) (hle : lo' ≤ lo) : m.wfFrom lo' = true := by
  cases m with
  | nil => rfl
  | cons c m =>
    obtain ⟨k, w⟩ := c
    simp only [wfFrom, Bool.and_eq_true, decide_eq_true_eq] at h ⊢
    exact ⟨⟨⟨by omega, h.1.1.2⟩, h.1.2⟩, h.2⟩

/-- A store leaves every other address alone, in canonical form or not. -/
theorem byteAt_store_ne (m : Memory) {a b : Nat} (v : Byte) (h : b ≠ a) : (m.store a v).byteAt b = m.byteAt b := by
  induction m with
  | nil => by_cases hv : v = Config.unlistedByte <;> simp [store, byteAt, hv, Ne.symm h]
  | cons c m ih =>
    obtain ⟨k, w⟩ := c
    simp only [store]
    split
    · split <;> simp [byteAt, Ne.symm h]
    · split
      · rename_i hk
        subst hk
        split <;> simp [byteAt, Ne.symm h]
      · simp only [byteAt, ih]

theorem byteAt_store_eq_of_wfFrom {lo : Nat} {m : Memory} (h : m.wfFrom lo = true) (a : Nat) (v : Byte) :
    (m.store a v).byteAt a = v := by
  induction m generalizing lo with
  | nil => by_cases hv : v = Config.unlistedByte <;> simp [store, byteAt, hv]
  | cons c m ih =>
    obtain ⟨k, w⟩ := c
    simp only [wfFrom, Bool.and_eq_true, decide_eq_true_eq] at h
    simp only [store]
    split
    · rename_i hlt
      split
      · rename_i hv
        rw [hv]
        have hk : k ≠ a := by omega
        simp only [byteAt, hk, if_false]
        exact byteAt_of_lt h.2 (by omega)
      · simp [byteAt]
    · split
      · rename_i hk
        split
        · rename_i hv
          rw [hv]
          exact byteAt_of_lt h.2 (by omega)
        · simp [byteAt]
      · rename_i hne
        have hk : k ≠ a := fun e => hne e.symm
        simp only [byteAt, hk, if_false]
        exact ih h.2

/-- In canonical form, a store is read back. -/
theorem byteAt_store_eq {m : Memory} (h : m.wf = true) (a : Nat) (v : Byte) : (m.store a v).byteAt a = v :=
  byteAt_store_eq_of_wfFrom h a v

theorem store_wfFrom {lo : Nat} {m : Memory} (h : m.wfFrom lo = true) {a : Nat} (hlo : lo ≤ a) (ha : a < 65536) (v : Byte) :
    (m.store a v).wfFrom lo = true := by
  induction m generalizing lo with
  | nil => by_cases hv : v = Config.unlistedByte <;> simp [store, wfFrom, hv, hlo, ha]
  | cons c m ih =>
    obtain ⟨k, w⟩ := c
    have h' := h
    simp only [wfFrom, Bool.and_eq_true, decide_eq_true_eq] at h'
    simp only [store]
    split
    · split
      · exact h
      · rename_i hlt hv
        have htail : Memory.wfFrom (a + 1) ((k, w) :: m) = true := by
          simp only [wfFrom, Bool.and_eq_true, decide_eq_true_eq]
          exact ⟨⟨⟨by omega, h'.1.1.2⟩, h'.1.2⟩, h'.2⟩
        rw [wfFrom]
        simp [hlo, ha, hv, htail]
    · split
      · rename_i hk
        subst hk
        split
        · exact wfFrom_mono h'.2 (by omega)
        · rename_i hv
          rw [wfFrom]
          simp [hlo, ha, hv, h'.2]
      · simp only [wfFrom, Bool.and_eq_true, decide_eq_true_eq]
        exact ⟨h'.1, ih h'.2 (by omega)⟩

/-- Every store at a 16-bit address keeps the canonical form. -/
theorem store_wf {m : Memory} (h : m.wf = true) {a : Nat} (ha : a < 65536) (v : Byte) : (m.store a v).wf = true :=
  store_wfFrom h (Nat.zero_le a) ha v

end Memory

namespace State

@[simp] theorem write_mem (s : State) (addr : Word) (v : Byte) : (s.write addr v).mem = s.mem.store addr.toNat v := rfl

/-- A write keeps memory's canonical form. -/
theorem write_wf {s : State} (h : s.mem.wf = true) (addr : Word) (v : Byte) : (s.write addr v).mem.wf = true :=
  Memory.store_wf h addr.isLt v

/-- A write leaves every other address alone (R62). -/
theorem read_write_ne (s : State) {addr b : Word} (v : Byte) (h : b ≠ addr) : (s.write addr v).read b = s.read b :=
  Memory.byteAt_store_ne s.mem v (fun e => h (BitVec.eq_of_toNat_eq e))

/-- A read of a memory in canonical form returns what was just written there (R63). -/
theorem read_write_eq {s : State} (h : s.mem.wf = true) (addr : Word) (v : Byte) : (s.write addr v).read addr = v :=
  Memory.byteAt_store_eq h addr.toNat v

/-- A write is memory's store and nothing else: what every other field reads after it. -/
theorem write_eq_setMem (s : State) (addr : Word) (v : Byte) : s.write addr v = s.setMem (s.mem.store addr.toNat v) := rfl

/-- Reading depends on memory alone. -/
theorem read_of_mem_eq {s t : State} (h : t.mem = s.mem) (addr : Word) : t.read addr = s.read addr := by
  simp only [State.read, h]

theorem reset_mem_wf : State.reset.mem.wf = true := rfl

/-- Loading keeps the canonical form. -/
theorem load_wf {s : State} (h : s.mem.wf = true) (addr : Word) (bytes : List Byte) : (s.load addr bytes).mem.wf = true := by
  induction bytes generalizing s addr with
  | nil => exact h
  | cons b bs ih => exact ih (write_wf h addr b) (addr + 1#16)

end State

end Sys2Proof.Machine
end

