-- ==== Sys2Proof/Laws/Ops.lean ====
section
/-! SUPPORT. What each shared operation of Machine/Ops.lean can do, field by field: the stack (R75, R76), the interrupt entry
(R405), BRK's entry (R388), the return from an interrupt (R389) and the decode fault (R409). -/

namespace Sys2Proof.Machine

namespace State

@[simp] theorem setA_read (s : State) (v : Byte) (addr : Word) : (s.setA v).read addr = s.read addr := rfl
@[simp] theorem setA_read16 (s : State) (v : Byte) (addr : Word) : (s.setA v).read16 addr = s.read16 addr := rfl
@[simp] theorem setX_read (s : State) (v : Byte) (addr : Word) : (s.setX v).read addr = s.read addr := rfl
@[simp] theorem setX_read16 (s : State) (v : Byte) (addr : Word) : (s.setX v).read16 addr = s.read16 addr := rfl
@[simp] theorem setY_read (s : State) (v : Byte) (addr : Word) : (s.setY v).read addr = s.read addr := rfl
@[simp] theorem setY_read16 (s : State) (v : Byte) (addr : Word) : (s.setY v).read16 addr = s.read16 addr := rfl
@[simp] theorem setSp_read (s : State) (v : Byte) (addr : Word) : (s.setSp v).read addr = s.read addr := rfl
@[simp] theorem setSp_read16 (s : State) (v : Byte) (addr : Word) : (s.setSp v).read16 addr = s.read16 addr := rfl
@[simp] theorem setPc_read (s : State) (v : Word) (addr : Word) : (s.setPc v).read addr = s.read addr := rfl
@[simp] theorem setPc_read16 (s : State) (v : Word) (addr : Word) : (s.setPc v).read16 addr = s.read16 addr := rfl
@[simp] theorem setP_read (s : State) (v : Flags) (addr : Word) : (s.setP v).read addr = s.read addr := rfl
@[simp] theorem setP_read16 (s : State) (v : Flags) (addr : Word) : (s.setP v).read16 addr = s.read16 addr := rfl
@[simp] theorem setRun_read (s : State) (v : RunState) (addr : Word) : (s.setRun v).read addr = s.read addr := rfl
@[simp] theorem setRun_read16 (s : State) (v : RunState) (addr : Word) : (s.setRun v).read16 addr = s.read16 addr := rfl
@[simp] theorem setFault_read (s : State) (v : Option Fault) (addr : Word) : (s.setFault v).read addr = s.read addr := rfl
@[simp] theorem setFault_read16 (s : State) (v : Option Fault) (addr : Word) : (s.setFault v).read16 addr = s.read16 addr := rfl
@[simp] theorem setNmiPending_read (s : State) (v : Bool) (addr : Word) : (s.setNmiPending v).read addr = s.read addr := rfl
@[simp] theorem setNmiPending_read16 (s : State) (v : Bool) (addr : Word) : (s.setNmiPending v).read16 addr = s.read16 addr := rfl
@[simp] theorem setPollI_read (s : State) (v : Bool) (addr : Word) : (s.setPollI v).read addr = s.read addr := rfl
@[simp] theorem setPollI_read16 (s : State) (v : Bool) (addr : Word) : (s.setPollI v).read16 addr = s.read16 addr := rfl
@[simp] theorem setIrq_read (s : State) (v : Bool) (addr : Word) : (s.setIrq v).read addr = s.read addr := rfl
@[simp] theorem setIrq_read16 (s : State) (v : Bool) (addr : Word) : (s.setIrq v).read16 addr = s.read16 addr := rfl
@[simp] theorem setNmiEarly_read (s : State) (v : Bool) (addr : Word) : (s.setNmiEarly v).read addr = s.read addr := rfl
@[simp] theorem setNmiEarly_read16 (s : State) (v : Bool) (addr : Word) : (s.setNmiEarly v).read16 addr = s.read16 addr := rfl
@[simp] theorem setHost_read (s : State) (v : List HostCall) (addr : Word) : (s.setHost v).read addr = s.read addr := rfl
@[simp] theorem setHost_read16 (s : State) (v : List HostCall) (addr : Word) : (s.setHost v).read16 addr = s.read16 addr := rfl
@[simp] theorem setCycles_read (s : State) (v : Nat) (addr : Word) : (s.setCycles v).read addr = s.read addr := rfl
@[simp] theorem setCycles_read16 (s : State) (v : Nat) (addr : Word) : (s.setCycles v).read16 addr = s.read16 addr := rfl

section write
variable (s : State) (addr : Word) (v : Byte)
@[simp] theorem write_a : (s.write addr v).a = s.a := rfl
@[simp] theorem write_x : (s.write addr v).x = s.x := rfl
@[simp] theorem write_y : (s.write addr v).y = s.y := rfl
@[simp] theorem write_sp : (s.write addr v).sp = s.sp := rfl
@[simp] theorem write_pc : (s.write addr v).pc = s.pc := rfl
@[simp] theorem write_p : (s.write addr v).p = s.p := rfl
@[simp] theorem write_run : (s.write addr v).run = s.run := rfl
@[simp] theorem write_fault : (s.write addr v).fault = s.fault := rfl
@[simp] theorem write_nmiPending : (s.write addr v).nmiPending = s.nmiPending := rfl
@[simp] theorem write_pollI : (s.write addr v).pollI = s.pollI := rfl
@[simp] theorem write_decimalMode : (s.write addr v).decimalMode = s.decimalMode := rfl
@[simp] theorem write_irq : (s.write addr v).irq = s.irq := rfl
@[simp] theorem write_nmiEarly : (s.write addr v).nmiEarly = s.nmiEarly := rfl
@[simp] theorem write_host : (s.write addr v).host = s.host := rfl
@[simp] theorem write_cycles : (s.write addr v).cycles = s.cycles := rfl
end write

section push
variable (s : State) (v : Byte)
@[simp] theorem push_a : (s.push v).a = s.a := rfl
@[simp] theorem push_x : (s.push v).x = s.x := rfl
@[simp] theorem push_y : (s.push v).y = s.y := rfl
@[simp] theorem push_sp : (s.push v).sp = s.sp - 1#8 := rfl
@[simp] theorem push_pc : (s.push v).pc = s.pc := rfl
@[simp] theorem push_p : (s.push v).p = s.p := rfl
@[simp] theorem push_run : (s.push v).run = s.run := rfl
@[simp] theorem push_fault : (s.push v).fault = s.fault := rfl
@[simp] theorem push_nmiPending : (s.push v).nmiPending = s.nmiPending := rfl
@[simp] theorem push_pollI : (s.push v).pollI = s.pollI := rfl
@[simp] theorem push_mem : (s.push v).mem = s.mem.store (stackAddr s.sp).toNat v := rfl
@[simp] theorem push_decimalMode : (s.push v).decimalMode = s.decimalMode := rfl
@[simp] theorem push_irq : (s.push v).irq = s.irq := rfl
@[simp] theorem push_nmiEarly : (s.push v).nmiEarly = s.nmiEarly := rfl
@[simp] theorem push_host : (s.push v).host = s.host := rfl
@[simp] theorem push_cycles : (s.push v).cycles = s.cycles := rfl
end push

section pull
variable (s : State)
@[simp] theorem pull_a : (s.pull.2).a = s.a := rfl
@[simp] theorem pull_x : (s.pull.2).x = s.x := rfl
@[simp] theorem pull_y : (s.pull.2).y = s.y := rfl
@[simp] theorem pull_sp : (s.pull.2).sp = s.sp + 1#8 := rfl
@[simp] theorem pull_pc : (s.pull.2).pc = s.pc := rfl
@[simp] theorem pull_p : (s.pull.2).p = s.p := rfl
@[simp] theorem pull_run : (s.pull.2).run = s.run := rfl
@[simp] theorem pull_fault : (s.pull.2).fault = s.fault := rfl
@[simp] theorem pull_nmiPending : (s.pull.2).nmiPending = s.nmiPending := rfl
@[simp] theorem pull_pollI : (s.pull.2).pollI = s.pollI := rfl
@[simp] theorem pull_mem : (s.pull.2).mem = s.mem := rfl
@[simp] theorem pull_decimalMode : (s.pull.2).decimalMode = s.decimalMode := rfl
@[simp] theorem pull_irq : (s.pull.2).irq = s.irq := rfl
@[simp] theorem pull_nmiEarly : (s.pull.2).nmiEarly = s.nmiEarly := rfl
@[simp] theorem pull_host : (s.pull.2).host = s.host := rfl
@[simp] theorem pull_cycles : (s.pull.2).cycles = s.cycles := rfl
end pull

@[simp] theorem pull_value (s : State) : s.pull.1 = s.read (stackAddr (s.sp + 1#8)) := rfl

@[simp] theorem pull_read (s : State) (addr : Word) : s.pull.2.read addr = s.read addr := rfl

section interruptEntry
variable (s : State) (vec : Word) (b : Bool)
@[simp] theorem interruptEntry_a : (s.interruptEntry vec b).a = s.a := by simp [interruptEntry]
@[simp] theorem interruptEntry_x : (s.interruptEntry vec b).x = s.x := by simp [interruptEntry]
@[simp] theorem interruptEntry_y : (s.interruptEntry vec b).y = s.y := by simp [interruptEntry]
@[simp] theorem interruptEntry_sp : (s.interruptEntry vec b).sp = s.sp - 1#8 - 1#8 - 1#8 := by simp [interruptEntry]
@[simp] theorem interruptEntry_pc : (s.interruptEntry vec b).pc = (((s.push (hiByte s.pc)).push (loByte s.pc)).push (packP s.p b)).read16 vec := by simp [interruptEntry]
@[simp] theorem interruptEntry_p : (s.interruptEntry vec b).p = { s.p with i := true } := by simp [interruptEntry]
@[simp] theorem interruptEntry_run : (s.interruptEntry vec b).run = s.run := by simp [interruptEntry]
@[simp] theorem interruptEntry_fault : (s.interruptEntry vec b).fault = s.fault := by simp [interruptEntry]
@[simp] theorem interruptEntry_nmiPending : (s.interruptEntry vec b).nmiPending = s.nmiPending := by simp [interruptEntry]
@[simp] theorem interruptEntry_pollI : (s.interruptEntry vec b).pollI = s.pollI := by simp [interruptEntry]
@[simp] theorem interruptEntry_mem : (s.interruptEntry vec b).mem = (((s.push (hiByte s.pc)).push (loByte s.pc)).push (packP s.p b)).mem := by simp [interruptEntry]
@[simp] theorem interruptEntry_decimalMode : (s.interruptEntry vec b).decimalMode = s.decimalMode := by simp [interruptEntry]
@[simp] theorem interruptEntry_irq : (s.interruptEntry vec b).irq = s.irq := by simp [interruptEntry]
@[simp] theorem interruptEntry_nmiEarly : (s.interruptEntry vec b).nmiEarly = s.nmiEarly := by simp [interruptEntry]
@[simp] theorem interruptEntry_host : (s.interruptEntry vec b).host = s.host := by simp [interruptEntry]
@[simp] theorem interruptEntry_cycles : (s.interruptEntry vec b).cycles = s.cycles := by simp [interruptEntry]
end interruptEntry

section softwareBreak
variable (s : State)
@[simp] theorem softwareBreak_a : (s.softwareBreak).a = s.a := by simp [softwareBreak]
@[simp] theorem softwareBreak_x : (s.softwareBreak).x = s.x := by simp [softwareBreak]
@[simp] theorem softwareBreak_y : (s.softwareBreak).y = s.y := by simp [softwareBreak]
@[simp] theorem softwareBreak_sp : (s.softwareBreak).sp = s.sp - 1#8 - 1#8 - 1#8 := by simp [softwareBreak]
@[simp] theorem softwareBreak_pc : (s.softwareBreak).pc = ((s.setPc (s.pc + 1#16)).interruptEntry s.irqOrHijackedVector true).pc := by simp [softwareBreak]
@[simp] theorem softwareBreak_p : (s.softwareBreak).p = { s.p with i := true } := by simp [softwareBreak]
@[simp] theorem softwareBreak_run : (s.softwareBreak).run = s.run := by simp [softwareBreak]
@[simp] theorem softwareBreak_fault : (s.softwareBreak).fault = s.fault := by simp [softwareBreak]
@[simp] theorem softwareBreak_nmiPending : (s.softwareBreak).nmiPending = s.nmiPending := by simp [softwareBreak]
@[simp] theorem softwareBreak_pollI : (s.softwareBreak).pollI = s.pollI := by simp [softwareBreak]
@[simp] theorem softwareBreak_mem : (s.softwareBreak).mem = ((s.setPc (s.pc + 1#16)).interruptEntry s.irqOrHijackedVector true).mem := by simp [softwareBreak]
@[simp] theorem softwareBreak_decimalMode : (s.softwareBreak).decimalMode = s.decimalMode := by simp [softwareBreak]
@[simp] theorem softwareBreak_irq : (s.softwareBreak).irq = s.irq := by simp [softwareBreak]
@[simp] theorem softwareBreak_nmiEarly : (s.softwareBreak).nmiEarly = s.nmiEarly := by simp [softwareBreak]
@[simp] theorem softwareBreak_host : (s.softwareBreak).host = s.host := by simp [softwareBreak]
@[simp] theorem softwareBreak_cycles : (s.softwareBreak).cycles = s.cycles := by simp [softwareBreak]
end softwareBreak

section returnFromInterrupt
variable (s : State)
@[simp] theorem returnFromInterrupt_a : (s.returnFromInterrupt).a = s.a := by simp [returnFromInterrupt]
@[simp] theorem returnFromInterrupt_x : (s.returnFromInterrupt).x = s.x := by simp [returnFromInterrupt]
@[simp] theorem returnFromInterrupt_y : (s.returnFromInterrupt).y = s.y := by simp [returnFromInterrupt]
@[simp] theorem returnFromInterrupt_sp : (s.returnFromInterrupt).sp = s.sp + 1#8 + 1#8 + 1#8 := by simp [returnFromInterrupt]
@[simp] theorem returnFromInterrupt_pc : (s.returnFromInterrupt).pc = wordOf (s.read (stackAddr (s.sp + 1#8 + 1#8))) (s.read (stackAddr (s.sp + 1#8 + 1#8 + 1#8))) := by simp [returnFromInterrupt]
@[simp] theorem returnFromInterrupt_p : (s.returnFromInterrupt).p = unpackP (s.read (stackAddr (s.sp + 1#8))) s.p := by simp [returnFromInterrupt]
@[simp] theorem returnFromInterrupt_run : (s.returnFromInterrupt).run = s.run := by simp [returnFromInterrupt]
@[simp] theorem returnFromInterrupt_fault : (s.returnFromInterrupt).fault = s.fault := by simp [returnFromInterrupt]
@[simp] theorem returnFromInterrupt_nmiPending : (s.returnFromInterrupt).nmiPending = s.nmiPending := by simp [returnFromInterrupt]
@[simp] theorem returnFromInterrupt_pollI : (s.returnFromInterrupt).pollI = s.pollI := by simp [returnFromInterrupt]
@[simp] theorem returnFromInterrupt_mem : (s.returnFromInterrupt).mem = s.mem := by simp [returnFromInterrupt]
@[simp] theorem returnFromInterrupt_decimalMode : (s.returnFromInterrupt).decimalMode = s.decimalMode := by simp [returnFromInterrupt]
@[simp] theorem returnFromInterrupt_irq : (s.returnFromInterrupt).irq = s.irq := by simp [returnFromInterrupt]
@[simp] theorem returnFromInterrupt_nmiEarly : (s.returnFromInterrupt).nmiEarly = s.nmiEarly := by simp [returnFromInterrupt]
@[simp] theorem returnFromInterrupt_host : (s.returnFromInterrupt).host = s.host := by simp [returnFromInterrupt]
@[simp] theorem returnFromInterrupt_cycles : (s.returnFromInterrupt).cycles = s.cycles := by simp [returnFromInterrupt]
end returnFromInterrupt

section raiseDecodeFault
variable (s : State) (addr : Word) (op : Byte)
@[simp] theorem raiseDecodeFault_a : (s.raiseDecodeFault addr op).a = s.a := rfl
@[simp] theorem raiseDecodeFault_x : (s.raiseDecodeFault addr op).x = s.x := rfl
@[simp] theorem raiseDecodeFault_y : (s.raiseDecodeFault addr op).y = s.y := rfl
@[simp] theorem raiseDecodeFault_sp : (s.raiseDecodeFault addr op).sp = s.sp := rfl
@[simp] theorem raiseDecodeFault_pc : (s.raiseDecodeFault addr op).pc = addr := rfl
@[simp] theorem raiseDecodeFault_p : (s.raiseDecodeFault addr op).p = s.p := rfl
@[simp] theorem raiseDecodeFault_run : (s.raiseDecodeFault addr op).run = .halted := rfl
@[simp] theorem raiseDecodeFault_fault : (s.raiseDecodeFault addr op).fault = some (.decodeFault addr op) := rfl
@[simp] theorem raiseDecodeFault_nmiPending : (s.raiseDecodeFault addr op).nmiPending = s.nmiPending := rfl
@[simp] theorem raiseDecodeFault_pollI : (s.raiseDecodeFault addr op).pollI = s.pollI := rfl
@[simp] theorem raiseDecodeFault_mem : (s.raiseDecodeFault addr op).mem = s.mem := rfl
@[simp] theorem raiseDecodeFault_decimalMode : (s.raiseDecodeFault addr op).decimalMode = s.decimalMode := rfl
@[simp] theorem raiseDecodeFault_irq : (s.raiseDecodeFault addr op).irq = s.irq := rfl
@[simp] theorem raiseDecodeFault_nmiEarly : (s.raiseDecodeFault addr op).nmiEarly = s.nmiEarly := rfl
@[simp] theorem raiseDecodeFault_host : (s.raiseDecodeFault addr op).host = s.host := rfl
@[simp] theorem raiseDecodeFault_cycles : (s.raiseDecodeFault addr op).cycles = s.cycles := rfl
end raiseDecodeFault

/-- A push keeps memory's canonical form. -/
theorem push_wf {s : State} (h : s.mem.wf = true) (v : Byte) : (s.push v).mem.wf = true := write_wf h _ v

/-- A push writes the stack byte that S selects and no other. -/
theorem read_push_ne (s : State) {b : Word} (v : Byte) (h : b ≠ stackAddr s.sp) : (s.push v).read b = s.read b :=
  read_write_ne s v h

theorem read_push_eq {s : State} (h : s.mem.wf = true) (v : Byte) : (s.push v).read (stackAddr s.sp) = v :=
  read_write_eq h _ v

/-- An entry keeps memory's canonical form. -/
theorem interruptEntry_wf {s : State} (h : s.mem.wf = true) (vec : Word) (b : Bool) :
    (s.interruptEntry vec b).mem.wf = true := by
  rw [interruptEntry_mem]
  exact push_wf (push_wf (push_wf h _) _) _

theorem softwareBreak_wf {s : State} (h : s.mem.wf = true) : s.softwareBreak.mem.wf = true := by
  rw [softwareBreak_mem]
  exact interruptEntry_wf (by simpa using h) _ _

/-- An entry writes the three stack bytes at S, S - 1 and S - 2 and no other. -/
theorem read_interruptEntry_ne (s : State) (vec : Word) (b : Bool) {k : Word} (h0 : k ≠ stackAddr s.sp)
    (h1 : k ≠ stackAddr (s.sp - 1#8)) (h2 : k ≠ stackAddr (s.sp - 1#8 - 1#8)) : (s.interruptEntry vec b).read k = s.read k := by
  rw [read_of_mem_eq (interruptEntry_mem s vec b) k, read_push_ne _ _ h2, read_push_ne _ _ h1, read_push_ne _ _ h0]

/-- Distinct stack pointers select distinct stack bytes. -/
theorem stackAddr_injective {p q : Byte} (h : stackAddr p = stackAddr q) : p = q := by
  have h' := congrArg (BitVec.setWidth 8) h
  simpa only [stackAddr, wordOf, BitVec.setWidth_append_eq_right] using h'

end State

end Sys2Proof.Machine
end

