-- ==== Sys2Proof/Laws/Operands.lean ====
section
/-! SUPPORT. What storing an operand changes (R124), what the flag helpers write (R36), and the status byte taken apart (R35,
R38). -/

namespace Sys2Proof

open Machine

/-- Storing at a location keeps memory's canonical form. -/
theorem Loc.put_wf {s : State} (h : s.mem.wf = true) (l : Loc) (v : Byte) : (l.put v s).mem.wf = true := by
  cases l with
  | acc => exact h
  | mem m => exact State.write_wf h _ _

/-- Storing at a location changes A, or one byte of memory, and no other field. -/
theorem Loc.put_cases (l : Loc) (v : Byte) (s : State) :
    (l = .acc ∧ l.put v s = s.setA v) ∨ ∃ m, l = .mem m ∧ l.put v s = s.setMem (s.mem.store (m.ea s).toNat v) := by
  cases l with
  | acc => exact .inl ⟨rfl, rfl⟩
  | mem m => exact .inr ⟨m, rfl, rfl⟩

namespace Machine

@[simp] theorem setNZ_n (p : Flags) (v : Byte) : (setNZ p v).n = v.getLsbD 7 := rfl
@[simp] theorem setNZ_z (p : Flags) (v : Byte) : (setNZ p v).z = (v == 0x00#8) := rfl
@[simp] theorem setNZ_v (p : Flags) (v : Byte) : (setNZ p v).v = p.v := rfl
@[simp] theorem setNZ_b (p : Flags) (v : Byte) : (setNZ p v).b = p.b := rfl
@[simp] theorem setNZ_d (p : Flags) (v : Byte) : (setNZ p v).d = p.d := rfl
@[simp] theorem setNZ_i (p : Flags) (v : Byte) : (setNZ p v).i = p.i := rfl
@[simp] theorem setNZ_c (p : Flags) (v : Byte) : (setNZ p v).c = p.c := rfl
@[simp] theorem addFlags_b (p : Flags) (r : AddResult) : (addFlags p r).b = p.b := rfl
@[simp] theorem addFlags_d (p : Flags) (r : AddResult) : (addFlags p r).d = p.d := rfl
@[simp] theorem addFlags_i (p : Flags) (r : AddResult) : (addFlags p r).i = p.i := rfl
@[simp] theorem unpackP_b (v : Byte) (p : Flags) : (unpackP v p).b = p.b := rfl
@[simp] theorem compareFlags_b (r m : Byte) (p : Flags) : (compareFlags r m p).b = p.b := rfl
@[simp] theorem bitFlags_b (a m : Byte) (p : Flags) : (bitFlags a m p).b = p.b := rfl

/-- ADC writes A and the flags N, V, Z, C, and nothing else. -/
theorem adc_eq (o : Operand) (s : State) :
    ∃ (v : Byte) (n ov z c : Bool), adc o s = (s.setA v).setP { s.p with n := n, v := ov, z := z, c := c } := by
  unfold adc
  cases s.decimal <;> exact ⟨_, _, _, _, _, rfl⟩

/-- SBC writes A and the flags N, V, Z, C, and nothing else. -/
theorem sbc_eq (o : Operand) (s : State) :
    ∃ (v : Byte) (n ov z c : Bool), sbc o s = (s.setA v).setP { s.p with n := n, v := ov, z := z, c := c } := by
  unfold sbc
  cases s.decimal <;> exact ⟨_, _, _, _, _, rfl⟩

/-- Bit 7 of a byte, in numbers. -/
theorem getLsbD_seven_eq (v : Byte) : v.getLsbD 7 = decide (128 ≤ v.toNat) := by
  have hlt := v.isLt
  rw [BitVec.getLsbD, Nat.testBit_eq_decide_div_mod_eq]
  exact decide_eq_decide.mpr (by omega)

end Machine

end Sys2Proof
end

