-- ==== Sys2Proof/Laws/Engine.lean ====
section
/-! SUPPORT. Which case of `Step(irq, nmiEarly)` runs (R130, R404), what its end changes, and when a step is a host call (R418). -/

namespace Sys2Proof.Machine

/-- With no scheduled host call, a step is one `Step(irq, nmiEarly)`. -/
theorem step_of_host_nil {s : State} (h : s.host = []) : step s = s.coreStep := by
  simp only [step, State.hostStep, h]

/-- With a scheduled host call, a step is that call. -/
theorem step_of_host_cons {s : State} {call : HostCall} {rest : List HostCall} (h : s.host = call :: rest) :
    step s = (s.setHost rest).hostCall call := by
  simp only [step, State.hostStep, h]

/-- Every step is a `Step(irq, nmiEarly)` or one of the other five host calls, on a state with a shorter schedule. -/
theorem step_cases (s : State) :
    (s.host = [] ∧ step s = s.coreStep) ∨
    (∃ e rest, s.host = .step e :: rest ∧ step s = ((s.setHost rest).setNmiEarly e).coreStep) ∨
    (∃ d rest, s.host = .reset d :: rest ∧ step s = .next ((s.setHost rest).resetWith d)) ∨
    (∃ rest, s.host = .haltResume :: rest ∧ step s = .next (s.setHost rest).haltResume) ∨
    (∃ rest, s.host = .nmiRequest :: rest ∧ step s = .next ((s.setHost rest).setNmiPending true)) ∨
    (∃ l rest, s.host = .driveIrq l :: rest ∧ step s = .next ((s.setHost rest).setIrq l)) ∨
    (∃ addr bytes rest, s.host = .load addr bytes :: rest ∧ step s = .next ((s.setHost rest).load addr bytes)) := by
  cases h : s.host with
  | nil => exact .inl ⟨rfl, step_of_host_nil h⟩
  | cons call rest =>
    have hs := step_of_host_cons h
    cases call with
    | step e => exact .inr (.inl ⟨e, rest, rfl, hs⟩)
    | reset d => exact .inr (.inr (.inl ⟨d, rest, rfl, hs⟩))
    | haltResume => exact .inr (.inr (.inr (.inl ⟨rest, rfl, hs⟩)))
    | nmiRequest => exact .inr (.inr (.inr (.inr (.inl ⟨rest, rfl, hs⟩))))
    | driveIrq l => exact .inr (.inr (.inr (.inr (.inr (.inl ⟨l, rest, rfl, hs⟩)))))
    | load addr bytes => exact .inr (.inr (.inr (.inr (.inr (.inr ⟨addr, bytes, rest, rfl, hs⟩)))))

/-- The three fetched bytes are enough for every format, so a fetch never runs short (R60, R100). -/
theorem decode_fetch_ne_truncated (b0 b1 b2 : Byte) : decode [b0, b1, b2] ≠ .truncated := by
  simp only [decode]
  cases opcodeCell b0 with
  | none => simp
  | some c => cases c <;> simp [OpcodeCell.assemble]

/-- The four cases of `Step(irq, nmiEarly)` (R130). -/
theorem coreStep_cases (s : State) :
    (s.run = .halted ∧ s.coreStep = .next (s.endStep s.nmiEarly 0)) ∨
    (s.run = .running ∧ s.nmiPending = true ∧ s.coreStep = .next s.nmiStep) ∨
    (s.run = .running ∧ s.nmiPending = false ∧ s.irq = true ∧ s.pollI = false ∧ s.coreStep = .next s.irqStep) ∨
    (s.run = .running ∧ s.nmiPending = false ∧ (s.irq = false ∨ s.pollI = true) ∧ s.coreStep = s.instrStep) := by
  cases hr : s.run <;> cases hn : s.nmiPending <;> cases hi : s.irq <;> cases hp : s.pollI <;>
    simp [State.coreStep, State.arbitrate, hr, hn, hi, hp]

/-- The two cases of an instruction step: the decoded instruction runs, or the decode fault is raised. -/
theorem instrStep_cases (s : State) :
    (∃ i, decode s.fetchBytes = .instr i ∧ ∀ t, exec i (s.pastInstr i) = .next t →
      s.instrStep = .next (t.retire i (s.pastInstr i))) ∨
    (∃ op, decode s.fetchBytes = .undefinedOpcode op ∧ s.instrStep = .next (s.faultStep op)) := by
  cases h : decode s.fetchBytes with
  | instr i => exact .inl ⟨i, rfl, fun t ht => by simp only [State.instrStep, h, ht]⟩
  | undefinedOpcode op => exact .inr ⟨op, rfl, by simp only [State.instrStep, h]⟩
  | truncated => exact absurd h (decode_fetch_ne_truncated _ _ _)

/-- The end of a step changes the NMI latch, the consumed input and the returned count alone. -/
theorem endStep_eq (s : State) (latch : Bool) (cycles : Nat) :
    s.endStep latch cycles = { s with nmiPending := s.nmiPending || latch, nmiEarly := false, cycles := cycles } := rfl

/-- Retiring changes the end of a step's fields and `pollI` alone. -/
theorem retire_eq (t : State) (i : Instr) (s1 : State) :
    t.retire i s1 = { t with
      pollI := if i.op = .cli ∨ i.op = .sei ∨ i.op = .plp then s1.p.i else t.p.i
      nmiPending := t.nmiPending || (s1.nmiEarly && i.op != .brk)
      nmiEarly := false
      cycles := i.cycles s1 } := by
  simp only [State.retire, State.endStep, State.updatePoll, State.setCycles, State.setNmiEarly, State.setNmiPending,
    State.setPollI]

/-- A decode-fault step (R409). -/
theorem faultStep_eq (s : State) (op : Byte) :
    s.faultStep op = { s with
      fault := some (.decodeFault s.pc op), run := .halted
      nmiPending := s.nmiPending || s.nmiEarly, nmiEarly := false, cycles := 0 } := by
  simp only [State.faultStep, State.endStep, State.raiseDecodeFault, State.setCycles, State.setNmiEarly,
    State.setNmiPending, State.setRun, State.setFault, State.setPc]

/-- reset() keeps memory's canonical form: it writes none (R500). -/
theorem resetWith_mem (s : State) (d : ResetDraw) : (s.resetWith d).mem = s.mem := rfl

end Sys2Proof.Machine
end

