-- ==== Sys2Proof/Laws/Exec.lean ====
section
/-! SUPPORT. What exec does, said once: every form of a mnemonic is its one shared operation on the form's operand (R131). A proof
about all instructions takes `exec_meaning` apart into the 56 mnemonics, where `exec` is unfolded no more. -/

namespace Sys2Proof.Machine

/-- From the state `s`, a mnemonic with an operand (or with none) leaves a state. -/
inductive Meaning (s : State) : Op → Option Operand → State → Prop where
  | adc (o : Operand) : Meaning s .adc (some o) (adc o s)
  | sbc (o : Operand) : Meaning s .sbc (some o) (sbc o s)
  | inc (m : AddrMode) : Meaning s .inc (some (.loc (.mem m))) (readModifyWrite incByte (.mem m) s)
  | dec (m : AddrMode) : Meaning s .dec (some (.loc (.mem m))) (readModifyWrite decByte (.mem m) s)
  | inx : Meaning s .inx none ((s.setX (s.x + 1#8)).setP (setNZ s.p (s.x + 1#8)))
  | iny : Meaning s .iny none ((s.setY (s.y + 1#8)).setP (setNZ s.p (s.y + 1#8)))
  | dex : Meaning s .dex none ((s.setX (s.x - 1#8)).setP (setNZ s.p (s.x - 1#8)))
  | dey : Meaning s .dey none ((s.setY (s.y - 1#8)).setP (setNZ s.p (s.y - 1#8)))
  | and (o : Operand) : Meaning s .and (some o) (resultToA (s.a &&& o.value s) s)
  | ora (o : Operand) : Meaning s .ora (some o) (resultToA (s.a ||| o.value s) s)
  | eor (o : Operand) : Meaning s .eor (some o) (resultToA (s.a ^^^ o.value s) s)
  | bit (m : AddrMode) : Meaning s .bit (some (.loc (.mem m))) (bitTest (.loc (.mem m)) s)
  | asl (l : Loc) : Meaning s .asl (some (.loc l)) (readModifyWrite aslByte l s)
  | lsr (l : Loc) : Meaning s .lsr (some (.loc l)) (readModifyWrite lsrByte l s)
  | rol (l : Loc) : Meaning s .rol (some (.loc l)) (readModifyWrite rolByte l s)
  | ror (l : Loc) : Meaning s .ror (some (.loc l)) (readModifyWrite rorByte l s)
  | lda (o : Operand) : Meaning s .lda (some o) (resultToA (o.value s) s)
  | ldx (o : Operand) : Meaning s .ldx (some o) (resultToX (o.value s) s)
  | ldy (o : Operand) : Meaning s .ldy (some o) (resultToY (o.value s) s)
  | sta (m : AddrMode) : Meaning s .sta (some (.loc (.mem m))) (storeByte s.a m s)
  | stx (m : AddrMode) : Meaning s .stx (some (.loc (.mem m))) (storeByte s.x m s)
  | sty (m : AddrMode) : Meaning s .sty (some (.loc (.mem m))) (storeByte s.y m s)
  | tax : Meaning s .tax none (resultToX s.a s)
  | tay : Meaning s .tay none (resultToY s.a s)
  | txa : Meaning s .txa none (resultToA s.x s)
  | tya : Meaning s .tya none (resultToA s.y s)
  | tsx : Meaning s .tsx none (resultToX s.sp s)
  | txs : Meaning s .txs none (s.setSp s.x)
  | cmp (o : Operand) : Meaning s .cmp (some o) (compareWith s.a o s)
  | cpx (o : Operand) : Meaning s .cpx (some o) (compareWith s.x o s)
  | cpy (o : Operand) : Meaning s .cpy (some o) (compareWith s.y o s)
  | bpl (r : Byte) : Meaning s .bpl (some (.loc (.mem (.rel r)))) (branch .plus r s)
  | bmi (r : Byte) : Meaning s .bmi (some (.loc (.mem (.rel r)))) (branch .minus r s)
  | bvc (r : Byte) : Meaning s .bvc (some (.loc (.mem (.rel r)))) (branch .overflowClear r s)
  | bvs (r : Byte) : Meaning s .bvs (some (.loc (.mem (.rel r)))) (branch .overflowSet r s)
  | bcc (r : Byte) : Meaning s .bcc (some (.loc (.mem (.rel r)))) (branch .carryClear r s)
  | bcs (r : Byte) : Meaning s .bcs (some (.loc (.mem (.rel r)))) (branch .carrySet r s)
  | bne (r : Byte) : Meaning s .bne (some (.loc (.mem (.rel r)))) (branch .notEqual r s)
  | beq (r : Byte) : Meaning s .beq (some (.loc (.mem (.rel r)))) (branch .equal r s)
  | pha : Meaning s .pha none (s.push s.a)
  | php : Meaning s .php none (s.push (packP s.p true))
  | pla : Meaning s .pla none (resultToA s.pull.1 s.pull.2)
  | plp : Meaning s .plp none (s.pull.2.setP (unpackP s.pull.1 s.p))
  | jmp (m : AddrMode) : Meaning s .jmp (some (.loc (.mem m))) (jump m s)
  | jsr (m : AddrMode) : Meaning s .jsr (some (.loc (.mem m))) (callSubroutine m s)
  | rts : Meaning s .rts none (returnFromSubroutine s)
  | clc : Meaning s .clc none (s.setP { s.p with c := false })
  | sec : Meaning s .sec none (s.setP { s.p with c := true })
  | cli : Meaning s .cli none (s.setP { s.p with i := false })
  | sei : Meaning s .sei none (s.setP { s.p with i := true })
  | cld : Meaning s .cld none (s.setP { s.p with d := false })
  | sed : Meaning s .sed none (s.setP { s.p with d := true })
  | clv : Meaning s .clv none (s.setP { s.p with v := false })
  | nop : Meaning s .nop none (s)
  | brk : Meaning s .brk none (s.softwareBreak)
  | rti : Meaning s .rti none (s.returnFromInterrupt)

/-- Every instruction answers a next state, the one its mnemonic's meaning leaves. -/
theorem exec_meaning (i : Instr) (s : State) :
    ∃ op o t, i.op = op ∧ i.operand = o ∧ exec i s = .next t ∧ Meaning s op o t := by
  cases i <;> exact ⟨_, _, _, rfl, rfl, rfl, by constructor⟩

end Sys2Proof.Machine
end

