-- ==== Sys2Proof/Laws/Families.lean ====
section
/-! SUPPORT. What the shared operations of the instruction families write and leave, field by field, so that no proof unfolds
them (R204 to R389). -/

namespace Sys2Proof.Machine

section resultToA
variable (v : Byte) (s : State)
@[simp] theorem resultToA_a : (resultToA v s).a = v := rfl
@[simp] theorem resultToA_x : (resultToA v s).x = s.x := rfl
@[simp] theorem resultToA_y : (resultToA v s).y = s.y := rfl
@[simp] theorem resultToA_sp : (resultToA v s).sp = s.sp := rfl
@[simp] theorem resultToA_pc : (resultToA v s).pc = s.pc := rfl
@[simp] theorem resultToA_p : (resultToA v s).p = setNZ s.p v := rfl
@[simp] theorem resultToA_run : (resultToA v s).run = s.run := rfl
@[simp] theorem resultToA_fault : (resultToA v s).fault = s.fault := rfl
@[simp] theorem resultToA_nmiPending : (resultToA v s).nmiPending = s.nmiPending := rfl
@[simp] theorem resultToA_pollI : (resultToA v s).pollI = s.pollI := rfl
@[simp] theorem resultToA_mem : (resultToA v s).mem = s.mem := rfl
@[simp] theorem resultToA_decimalMode : (resultToA v s).decimalMode = s.decimalMode := rfl
@[simp] theorem resultToA_irq : (resultToA v s).irq = s.irq := rfl
@[simp] theorem resultToA_nmiEarly : (resultToA v s).nmiEarly = s.nmiEarly := rfl
@[simp] theorem resultToA_host : (resultToA v s).host = s.host := rfl
@[simp] theorem resultToA_cycles : (resultToA v s).cycles = s.cycles := rfl
end resultToA

section resultToX
variable (v : Byte) (s : State)
@[simp] theorem resultToX_a : (resultToX v s).a = s.a := rfl
@[simp] theorem resultToX_x : (resultToX v s).x = v := rfl
@[simp] theorem resultToX_y : (resultToX v s).y = s.y := rfl
@[simp] theorem resultToX_sp : (resultToX v s).sp = s.sp := rfl
@[simp] theorem resultToX_pc : (resultToX v s).pc = s.pc := rfl
@[simp] theorem resultToX_p : (resultToX v s).p = setNZ s.p v := rfl
@[simp] theorem resultToX_run : (resultToX v s).run = s.run := rfl
@[simp] theorem resultToX_fault : (resultToX v s).fault = s.fault := rfl
@[simp] theorem resultToX_nmiPending : (resultToX v s).nmiPending = s.nmiPending := rfl
@[simp] theorem resultToX_pollI : (resultToX v s).pollI = s.pollI := rfl
@[simp] theorem resultToX_mem : (resultToX v s).mem = s.mem := rfl
@[simp] theorem resultToX_decimalMode : (resultToX v s).decimalMode = s.decimalMode := rfl
@[simp] theorem resultToX_irq : (resultToX v s).irq = s.irq := rfl
@[simp] theorem resultToX_nmiEarly : (resultToX v s).nmiEarly = s.nmiEarly := rfl
@[simp] theorem resultToX_host : (resultToX v s).host = s.host := rfl
@[simp] theorem resultToX_cycles : (resultToX v s).cycles = s.cycles := rfl
end resultToX

section resultToY
variable (v : Byte) (s : State)
@[simp] theorem resultToY_a : (resultToY v s).a = s.a := rfl
@[simp] theorem resultToY_x : (resultToY v s).x = s.x := rfl
@[simp] theorem resultToY_y : (resultToY v s).y = v := rfl
@[simp] theorem resultToY_sp : (resultToY v s).sp = s.sp := rfl
@[simp] theorem resultToY_pc : (resultToY v s).pc = s.pc := rfl
@[simp] theorem resultToY_p : (resultToY v s).p = setNZ s.p v := rfl
@[simp] theorem resultToY_run : (resultToY v s).run = s.run := rfl
@[simp] theorem resultToY_fault : (resultToY v s).fault = s.fault := rfl
@[simp] theorem resultToY_nmiPending : (resultToY v s).nmiPending = s.nmiPending := rfl
@[simp] theorem resultToY_pollI : (resultToY v s).pollI = s.pollI := rfl
@[simp] theorem resultToY_mem : (resultToY v s).mem = s.mem := rfl
@[simp] theorem resultToY_decimalMode : (resultToY v s).decimalMode = s.decimalMode := rfl
@[simp] theorem resultToY_irq : (resultToY v s).irq = s.irq := rfl
@[simp] theorem resultToY_nmiEarly : (resultToY v s).nmiEarly = s.nmiEarly := rfl
@[simp] theorem resultToY_host : (resultToY v s).host = s.host := rfl
@[simp] theorem resultToY_cycles : (resultToY v s).cycles = s.cycles := rfl
end resultToY

section bitTest
variable (o : Operand) (s : State)
@[simp] theorem bitTest_a : (bitTest o s).a = s.a := rfl
@[simp] theorem bitTest_x : (bitTest o s).x = s.x := rfl
@[simp] theorem bitTest_y : (bitTest o s).y = s.y := rfl
@[simp] theorem bitTest_sp : (bitTest o s).sp = s.sp := rfl
@[simp] theorem bitTest_pc : (bitTest o s).pc = s.pc := rfl
@[simp] theorem bitTest_p : (bitTest o s).p = bitFlags s.a (o.value s) s.p := rfl
@[simp] theorem bitTest_run : (bitTest o s).run = s.run := rfl
@[simp] theorem bitTest_fault : (bitTest o s).fault = s.fault := rfl
@[simp] theorem bitTest_nmiPending : (bitTest o s).nmiPending = s.nmiPending := rfl
@[simp] theorem bitTest_pollI : (bitTest o s).pollI = s.pollI := rfl
@[simp] theorem bitTest_mem : (bitTest o s).mem = s.mem := rfl
@[simp] theorem bitTest_decimalMode : (bitTest o s).decimalMode = s.decimalMode := rfl
@[simp] theorem bitTest_irq : (bitTest o s).irq = s.irq := rfl
@[simp] theorem bitTest_nmiEarly : (bitTest o s).nmiEarly = s.nmiEarly := rfl
@[simp] theorem bitTest_host : (bitTest o s).host = s.host := rfl
@[simp] theorem bitTest_cycles : (bitTest o s).cycles = s.cycles := rfl
end bitTest

section compareWith
variable (r : Byte) (o : Operand) (s : State)
@[simp] theorem compareWith_a : (compareWith r o s).a = s.a := rfl
@[simp] theorem compareWith_x : (compareWith r o s).x = s.x := rfl
@[simp] theorem compareWith_y : (compareWith r o s).y = s.y := rfl
@[simp] theorem compareWith_sp : (compareWith r o s).sp = s.sp := rfl
@[simp] theorem compareWith_pc : (compareWith r o s).pc = s.pc := rfl
@[simp] theorem compareWith_p : (compareWith r o s).p = compareFlags r (o.value s) s.p := rfl
@[simp] theorem compareWith_run : (compareWith r o s).run = s.run := rfl
@[simp] theorem compareWith_fault : (compareWith r o s).fault = s.fault := rfl
@[simp] theorem compareWith_nmiPending : (compareWith r o s).nmiPending = s.nmiPending := rfl
@[simp] theorem compareWith_pollI : (compareWith r o s).pollI = s.pollI := rfl
@[simp] theorem compareWith_mem : (compareWith r o s).mem = s.mem := rfl
@[simp] theorem compareWith_decimalMode : (compareWith r o s).decimalMode = s.decimalMode := rfl
@[simp] theorem compareWith_irq : (compareWith r o s).irq = s.irq := rfl
@[simp] theorem compareWith_nmiEarly : (compareWith r o s).nmiEarly = s.nmiEarly := rfl
@[simp] theorem compareWith_host : (compareWith r o s).host = s.host := rfl
@[simp] theorem compareWith_cycles : (compareWith r o s).cycles = s.cycles := rfl
end compareWith

section branch
variable (cond : Condition) (r : Byte) (s : State)
@[simp] theorem branch_a : (branch cond r s).a = s.a := rfl
@[simp] theorem branch_x : (branch cond r s).x = s.x := rfl
@[simp] theorem branch_y : (branch cond r s).y = s.y := rfl
@[simp] theorem branch_sp : (branch cond r s).sp = s.sp := rfl
@[simp] theorem branch_pc : (branch cond r s).pc = if cond.holds s.p then (AddrMode.rel r).ea s else s.pc := rfl
@[simp] theorem branch_p : (branch cond r s).p = s.p := rfl
@[simp] theorem branch_run : (branch cond r s).run = s.run := rfl
@[simp] theorem branch_fault : (branch cond r s).fault = s.fault := rfl
@[simp] theorem branch_nmiPending : (branch cond r s).nmiPending = s.nmiPending := rfl
@[simp] theorem branch_pollI : (branch cond r s).pollI = s.pollI := rfl
@[simp] theorem branch_mem : (branch cond r s).mem = s.mem := rfl
@[simp] theorem branch_decimalMode : (branch cond r s).decimalMode = s.decimalMode := rfl
@[simp] theorem branch_irq : (branch cond r s).irq = s.irq := rfl
@[simp] theorem branch_nmiEarly : (branch cond r s).nmiEarly = s.nmiEarly := rfl
@[simp] theorem branch_host : (branch cond r s).host = s.host := rfl
@[simp] theorem branch_cycles : (branch cond r s).cycles = s.cycles := rfl
end branch

section jump
variable (m : AddrMode) (s : State)
@[simp] theorem jump_a : (jump m s).a = s.a := rfl
@[simp] theorem jump_x : (jump m s).x = s.x := rfl
@[simp] theorem jump_y : (jump m s).y = s.y := rfl
@[simp] theorem jump_sp : (jump m s).sp = s.sp := rfl
@[simp] theorem jump_pc : (jump m s).pc = m.ea s := rfl
@[simp] theorem jump_p : (jump m s).p = s.p := rfl
@[simp] theorem jump_run : (jump m s).run = s.run := rfl
@[simp] theorem jump_fault : (jump m s).fault = s.fault := rfl
@[simp] theorem jump_nmiPending : (jump m s).nmiPending = s.nmiPending := rfl
@[simp] theorem jump_pollI : (jump m s).pollI = s.pollI := rfl
@[simp] theorem jump_mem : (jump m s).mem = s.mem := rfl
@[simp] theorem jump_decimalMode : (jump m s).decimalMode = s.decimalMode := rfl
@[simp] theorem jump_irq : (jump m s).irq = s.irq := rfl
@[simp] theorem jump_nmiEarly : (jump m s).nmiEarly = s.nmiEarly := rfl
@[simp] theorem jump_host : (jump m s).host = s.host := rfl
@[simp] theorem jump_cycles : (jump m s).cycles = s.cycles := rfl
end jump

section storeByte
variable (v : Byte) (m : AddrMode) (s : State)
@[simp] theorem storeByte_a : (storeByte v m s).a = s.a := rfl
@[simp] theorem storeByte_x : (storeByte v m s).x = s.x := rfl
@[simp] theorem storeByte_y : (storeByte v m s).y = s.y := rfl
@[simp] theorem storeByte_sp : (storeByte v m s).sp = s.sp := rfl
@[simp] theorem storeByte_pc : (storeByte v m s).pc = s.pc := rfl
@[simp] theorem storeByte_p : (storeByte v m s).p = s.p := rfl
@[simp] theorem storeByte_run : (storeByte v m s).run = s.run := rfl
@[simp] theorem storeByte_fault : (storeByte v m s).fault = s.fault := rfl
@[simp] theorem storeByte_nmiPending : (storeByte v m s).nmiPending = s.nmiPending := rfl
@[simp] theorem storeByte_pollI : (storeByte v m s).pollI = s.pollI := rfl
@[simp] theorem storeByte_mem : (storeByte v m s).mem = s.mem.store (m.ea s).toNat v := rfl
@[simp] theorem storeByte_decimalMode : (storeByte v m s).decimalMode = s.decimalMode := rfl
@[simp] theorem storeByte_irq : (storeByte v m s).irq = s.irq := rfl
@[simp] theorem storeByte_nmiEarly : (storeByte v m s).nmiEarly = s.nmiEarly := rfl
@[simp] theorem storeByte_host : (storeByte v m s).host = s.host := rfl
@[simp] theorem storeByte_cycles : (storeByte v m s).cycles = s.cycles := rfl
end storeByte

section callSubroutine
variable (m : AddrMode) (s : State)
@[simp] theorem callSubroutine_a : (callSubroutine m s).a = s.a := by simp [callSubroutine]
@[simp] theorem callSubroutine_x : (callSubroutine m s).x = s.x := by simp [callSubroutine]
@[simp] theorem callSubroutine_y : (callSubroutine m s).y = s.y := by simp [callSubroutine]
@[simp] theorem callSubroutine_sp : (callSubroutine m s).sp = s.sp - 1#8 - 1#8 := by simp [callSubroutine]
@[simp] theorem callSubroutine_pc : (callSubroutine m s).pc = m.ea s := by simp [callSubroutine]
@[simp] theorem callSubroutine_p : (callSubroutine m s).p = s.p := by simp [callSubroutine]
@[simp] theorem callSubroutine_run : (callSubroutine m s).run = s.run := by simp [callSubroutine]
@[simp] theorem callSubroutine_fault : (callSubroutine m s).fault = s.fault := by simp [callSubroutine]
@[simp] theorem callSubroutine_nmiPending : (callSubroutine m s).nmiPending = s.nmiPending := by simp [callSubroutine]
@[simp] theorem callSubroutine_pollI : (callSubroutine m s).pollI = s.pollI := by simp [callSubroutine]
@[simp] theorem callSubroutine_mem : (callSubroutine m s).mem = ((s.push (hiByte (s.pc - 1#16))).push (loByte (s.pc - 1#16))).mem := by simp [callSubroutine]
@[simp] theorem callSubroutine_decimalMode : (callSubroutine m s).decimalMode = s.decimalMode := by simp [callSubroutine]
@[simp] theorem callSubroutine_irq : (callSubroutine m s).irq = s.irq := by simp [callSubroutine]
@[simp] theorem callSubroutine_nmiEarly : (callSubroutine m s).nmiEarly = s.nmiEarly := by simp [callSubroutine]
@[simp] theorem callSubroutine_host : (callSubroutine m s).host = s.host := by simp [callSubroutine]
@[simp] theorem callSubroutine_cycles : (callSubroutine m s).cycles = s.cycles := by simp [callSubroutine]
end callSubroutine

section returnFromSubroutine
variable (s : State)
@[simp] theorem returnFromSubroutine_a : (returnFromSubroutine s).a = s.a := by simp [returnFromSubroutine]
@[simp] theorem returnFromSubroutine_x : (returnFromSubroutine s).x = s.x := by simp [returnFromSubroutine]
@[simp] theorem returnFromSubroutine_y : (returnFromSubroutine s).y = s.y := by simp [returnFromSubroutine]
@[simp] theorem returnFromSubroutine_sp : (returnFromSubroutine s).sp = s.sp + 1#8 + 1#8 := by simp [returnFromSubroutine]
@[simp] theorem returnFromSubroutine_pc : (returnFromSubroutine s).pc = wordOf (s.read (stackAddr (s.sp + 1#8))) (s.read (stackAddr (s.sp + 1#8 + 1#8))) + 1#16 := by simp [returnFromSubroutine]
@[simp] theorem returnFromSubroutine_p : (returnFromSubroutine s).p = s.p := by simp [returnFromSubroutine]
@[simp] theorem returnFromSubroutine_run : (returnFromSubroutine s).run = s.run := by simp [returnFromSubroutine]
@[simp] theorem returnFromSubroutine_fault : (returnFromSubroutine s).fault = s.fault := by simp [returnFromSubroutine]
@[simp] theorem returnFromSubroutine_nmiPending : (returnFromSubroutine s).nmiPending = s.nmiPending := by simp [returnFromSubroutine]
@[simp] theorem returnFromSubroutine_pollI : (returnFromSubroutine s).pollI = s.pollI := by simp [returnFromSubroutine]
@[simp] theorem returnFromSubroutine_mem : (returnFromSubroutine s).mem = s.mem := by simp [returnFromSubroutine]
@[simp] theorem returnFromSubroutine_decimalMode : (returnFromSubroutine s).decimalMode = s.decimalMode := by simp [returnFromSubroutine]
@[simp] theorem returnFromSubroutine_irq : (returnFromSubroutine s).irq = s.irq := by simp [returnFromSubroutine]
@[simp] theorem returnFromSubroutine_nmiEarly : (returnFromSubroutine s).nmiEarly = s.nmiEarly := by simp [returnFromSubroutine]
@[simp] theorem returnFromSubroutine_host : (returnFromSubroutine s).host = s.host := by simp [returnFromSubroutine]
@[simp] theorem returnFromSubroutine_cycles : (returnFromSubroutine s).cycles = s.cycles := by simp [returnFromSubroutine]
end returnFromSubroutine

section addition
variable (o : Operand) (s : State)
@[simp] theorem adc_x : (adc o s).x = s.x := by
  obtain ⟨_, _, _, _, _, h⟩ := adc_eq o s
  simp [h]
@[simp] theorem adc_y : (adc o s).y = s.y := by
  obtain ⟨_, _, _, _, _, h⟩ := adc_eq o s
  simp [h]
@[simp] theorem adc_sp : (adc o s).sp = s.sp := by
  obtain ⟨_, _, _, _, _, h⟩ := adc_eq o s
  simp [h]
@[simp] theorem adc_pc : (adc o s).pc = s.pc := by
  obtain ⟨_, _, _, _, _, h⟩ := adc_eq o s
  simp [h]
@[simp] theorem adc_run : (adc o s).run = s.run := by
  obtain ⟨_, _, _, _, _, h⟩ := adc_eq o s
  simp [h]
@[simp] theorem adc_fault : (adc o s).fault = s.fault := by
  obtain ⟨_, _, _, _, _, h⟩ := adc_eq o s
  simp [h]
@[simp] theorem adc_nmiPending : (adc o s).nmiPending = s.nmiPending := by
  obtain ⟨_, _, _, _, _, h⟩ := adc_eq o s
  simp [h]
@[simp] theorem adc_pollI : (adc o s).pollI = s.pollI := by
  obtain ⟨_, _, _, _, _, h⟩ := adc_eq o s
  simp [h]
@[simp] theorem adc_mem : (adc o s).mem = s.mem := by
  obtain ⟨_, _, _, _, _, h⟩ := adc_eq o s
  simp [h]
@[simp] theorem adc_decimalMode : (adc o s).decimalMode = s.decimalMode := by
  obtain ⟨_, _, _, _, _, h⟩ := adc_eq o s
  simp [h]
@[simp] theorem adc_irq : (adc o s).irq = s.irq := by
  obtain ⟨_, _, _, _, _, h⟩ := adc_eq o s
  simp [h]
@[simp] theorem adc_nmiEarly : (adc o s).nmiEarly = s.nmiEarly := by
  obtain ⟨_, _, _, _, _, h⟩ := adc_eq o s
  simp [h]
@[simp] theorem adc_host : (adc o s).host = s.host := by
  obtain ⟨_, _, _, _, _, h⟩ := adc_eq o s
  simp [h]
@[simp] theorem adc_cycles : (adc o s).cycles = s.cycles := by
  obtain ⟨_, _, _, _, _, h⟩ := adc_eq o s
  simp [h]
@[simp] theorem adc_p_b : (adc o s).p.b = s.p.b := by
  obtain ⟨_, _, _, _, _, h⟩ := adc_eq o s
  simp [h]
@[simp] theorem adc_p_d : (adc o s).p.d = s.p.d := by
  obtain ⟨_, _, _, _, _, h⟩ := adc_eq o s
  simp [h]
@[simp] theorem adc_p_i : (adc o s).p.i = s.p.i := by
  obtain ⟨_, _, _, _, _, h⟩ := adc_eq o s
  simp [h]
@[simp] theorem sbc_x : (sbc o s).x = s.x := by
  obtain ⟨_, _, _, _, _, h⟩ := sbc_eq o s
  simp [h]
@[simp] theorem sbc_y : (sbc o s).y = s.y := by
  obtain ⟨_, _, _, _, _, h⟩ := sbc_eq o s
  simp [h]
@[simp] theorem sbc_sp : (sbc o s).sp = s.sp := by
  obtain ⟨_, _, _, _, _, h⟩ := sbc_eq o s
  simp [h]
@[simp] theorem sbc_pc : (sbc o s).pc = s.pc := by
  obtain ⟨_, _, _, _, _, h⟩ := sbc_eq o s
  simp [h]
@[simp] theorem sbc_run : (sbc o s).run = s.run := by
  obtain ⟨_, _, _, _, _, h⟩ := sbc_eq o s
  simp [h]
@[simp] theorem sbc_fault : (sbc o s).fault = s.fault := by
  obtain ⟨_, _, _, _, _, h⟩ := sbc_eq o s
  simp [h]
@[simp] theorem sbc_nmiPending : (sbc o s).nmiPending = s.nmiPending := by
  obtain ⟨_, _, _, _, _, h⟩ := sbc_eq o s
  simp [h]
@[simp] theorem sbc_pollI : (sbc o s).pollI = s.pollI := by
  obtain ⟨_, _, _, _, _, h⟩ := sbc_eq o s
  simp [h]
@[simp] theorem sbc_mem : (sbc o s).mem = s.mem := by
  obtain ⟨_, _, _, _, _, h⟩ := sbc_eq o s
  simp [h]
@[simp] theorem sbc_decimalMode : (sbc o s).decimalMode = s.decimalMode := by
  obtain ⟨_, _, _, _, _, h⟩ := sbc_eq o s
  simp [h]
@[simp] theorem sbc_irq : (sbc o s).irq = s.irq := by
  obtain ⟨_, _, _, _, _, h⟩ := sbc_eq o s
  simp [h]
@[simp] theorem sbc_nmiEarly : (sbc o s).nmiEarly = s.nmiEarly := by
  obtain ⟨_, _, _, _, _, h⟩ := sbc_eq o s
  simp [h]
@[simp] theorem sbc_host : (sbc o s).host = s.host := by
  obtain ⟨_, _, _, _, _, h⟩ := sbc_eq o s
  simp [h]
@[simp] theorem sbc_cycles : (sbc o s).cycles = s.cycles := by
  obtain ⟨_, _, _, _, _, h⟩ := sbc_eq o s
  simp [h]
@[simp] theorem sbc_p_b : (sbc o s).p.b = s.p.b := by
  obtain ⟨_, _, _, _, _, h⟩ := sbc_eq o s
  simp [h]
@[simp] theorem sbc_p_d : (sbc o s).p.d = s.p.d := by
  obtain ⟨_, _, _, _, _, h⟩ := sbc_eq o s
  simp [h]
@[simp] theorem sbc_p_i : (sbc o s).p.i = s.p.i := by
  obtain ⟨_, _, _, _, _, h⟩ := sbc_eq o s
  simp [h]
end addition

section readModifyWrite
variable (f : Byte → Flags → Byte × Flags) (l : Loc) (m : AddrMode) (s : State)
@[simp] theorem readModifyWrite_x : (readModifyWrite f l s).x = s.x := by
  cases l <;> rfl
@[simp] theorem readModifyWrite_y : (readModifyWrite f l s).y = s.y := by
  cases l <;> rfl
@[simp] theorem readModifyWrite_sp : (readModifyWrite f l s).sp = s.sp := by
  cases l <;> rfl
@[simp] theorem readModifyWrite_pc : (readModifyWrite f l s).pc = s.pc := by
  cases l <;> rfl
@[simp] theorem readModifyWrite_run : (readModifyWrite f l s).run = s.run := by
  cases l <;> rfl
@[simp] theorem readModifyWrite_fault : (readModifyWrite f l s).fault = s.fault := by
  cases l <;> rfl
@[simp] theorem readModifyWrite_nmiPending : (readModifyWrite f l s).nmiPending = s.nmiPending := by
  cases l <;> rfl
@[simp] theorem readModifyWrite_pollI : (readModifyWrite f l s).pollI = s.pollI := by
  cases l <;> rfl
@[simp] theorem readModifyWrite_decimalMode : (readModifyWrite f l s).decimalMode = s.decimalMode := by
  cases l <;> rfl
@[simp] theorem readModifyWrite_irq : (readModifyWrite f l s).irq = s.irq := by
  cases l <;> rfl
@[simp] theorem readModifyWrite_nmiEarly : (readModifyWrite f l s).nmiEarly = s.nmiEarly := by
  cases l <;> rfl
@[simp] theorem readModifyWrite_host : (readModifyWrite f l s).host = s.host := by
  cases l <;> rfl
@[simp] theorem readModifyWrite_cycles : (readModifyWrite f l s).cycles = s.cycles := by
  cases l <;> rfl
@[simp] theorem readModifyWrite_p : (readModifyWrite f l s).p = (f (l.value s) s.p).2 := rfl
@[simp] theorem readModifyWrite_acc_a : (readModifyWrite f .acc s).a = (f s.a s.p).1 := rfl
@[simp] theorem readModifyWrite_acc_mem : (readModifyWrite f .acc s).mem = s.mem := rfl
@[simp] theorem readModifyWrite_mem_a : (readModifyWrite f (.mem m) s).a = s.a := rfl
@[simp] theorem readModifyWrite_mem_mem :
    (readModifyWrite f (.mem m) s).mem = s.mem.store (m.ea s).toNat (f (s.read (m.ea s)) s.p).1 := rfl
end readModifyWrite

end Sys2Proof.Machine
end

