-- ==== Sys2Proof/Laws/PerInstr.lean ====
section
/-! SUPPORT. Statements made for every instruction: its form is one the rules list, and its encoding has the length of its
format (spec/30_encoding.md R100, R101). -/

namespace Sys2Proof.Laws.FormLength

/-- The form is well formed, the encoding is as long as the instruction's format says, and that is at most three bytes. -/
def Statement (i : Instr) : Prop :=
  i.wellFormed = true ∧ (encode i).length = i.length ∧ i.length ≤ 3

theorem adcIndX (z : Byte) : Statement (.adcIndX z) := ⟨rfl, rfl, Nat.le_of_ble_eq_true rfl⟩
theorem adcZp (z : Byte) : Statement (.adcZp z) := ⟨rfl, rfl, Nat.le_of_ble_eq_true rfl⟩
theorem adcImm (v : Byte) : Statement (.adcImm v) := ⟨rfl, rfl, Nat.le_of_ble_eq_true rfl⟩
theorem adcAbs (a : Word) : Statement (.adcAbs a) := ⟨rfl, rfl, Nat.le_of_ble_eq_true rfl⟩
theorem adcIndY (z : Byte) : Statement (.adcIndY z) := ⟨rfl, rfl, Nat.le_of_ble_eq_true rfl⟩
theorem adcZpX (z : Byte) : Statement (.adcZpX z) := ⟨rfl, rfl, Nat.le_of_ble_eq_true rfl⟩
theorem adcAbsY (a : Word) : Statement (.adcAbsY a) := ⟨rfl, rfl, Nat.le_of_ble_eq_true rfl⟩
theorem adcAbsX (a : Word) : Statement (.adcAbsX a) := ⟨rfl, rfl, Nat.le_of_ble_eq_true rfl⟩
theorem sbcIndX (z : Byte) : Statement (.sbcIndX z) := ⟨rfl, rfl, Nat.le_of_ble_eq_true rfl⟩
theorem sbcZp (z : Byte) : Statement (.sbcZp z) := ⟨rfl, rfl, Nat.le_of_ble_eq_true rfl⟩
theorem sbcImm (v : Byte) : Statement (.sbcImm v) := ⟨rfl, rfl, Nat.le_of_ble_eq_true rfl⟩
theorem sbcAbs (a : Word) : Statement (.sbcAbs a) := ⟨rfl, rfl, Nat.le_of_ble_eq_true rfl⟩
theorem sbcIndY (z : Byte) : Statement (.sbcIndY z) := ⟨rfl, rfl, Nat.le_of_ble_eq_true rfl⟩
theorem sbcZpX (z : Byte) : Statement (.sbcZpX z) := ⟨rfl, rfl, Nat.le_of_ble_eq_true rfl⟩
theorem sbcAbsY (a : Word) : Statement (.sbcAbsY a) := ⟨rfl, rfl, Nat.le_of_ble_eq_true rfl⟩
theorem sbcAbsX (a : Word) : Statement (.sbcAbsX a) := ⟨rfl, rfl, Nat.le_of_ble_eq_true rfl⟩
theorem incZp (z : Byte) : Statement (.incZp z) := ⟨rfl, rfl, Nat.le_of_ble_eq_true rfl⟩
theorem incAbs (a : Word) : Statement (.incAbs a) := ⟨rfl, rfl, Nat.le_of_ble_eq_true rfl⟩
theorem incZpX (z : Byte) : Statement (.incZpX z) := ⟨rfl, rfl, Nat.le_of_ble_eq_true rfl⟩
theorem incAbsX (a : Word) : Statement (.incAbsX a) := ⟨rfl, rfl, Nat.le_of_ble_eq_true rfl⟩
theorem decZp (z : Byte) : Statement (.decZp z) := ⟨rfl, rfl, Nat.le_of_ble_eq_true rfl⟩
theorem decAbs (a : Word) : Statement (.decAbs a) := ⟨rfl, rfl, Nat.le_of_ble_eq_true rfl⟩
theorem decZpX (z : Byte) : Statement (.decZpX z) := ⟨rfl, rfl, Nat.le_of_ble_eq_true rfl⟩
theorem decAbsX (a : Word) : Statement (.decAbsX a) := ⟨rfl, rfl, Nat.le_of_ble_eq_true rfl⟩
theorem inx : Statement (.inx) := ⟨rfl, rfl, Nat.le_of_ble_eq_true rfl⟩
theorem iny : Statement (.iny) := ⟨rfl, rfl, Nat.le_of_ble_eq_true rfl⟩
theorem dex : Statement (.dex) := ⟨rfl, rfl, Nat.le_of_ble_eq_true rfl⟩
theorem dey : Statement (.dey) := ⟨rfl, rfl, Nat.le_of_ble_eq_true rfl⟩
theorem andIndX (z : Byte) : Statement (.andIndX z) := ⟨rfl, rfl, Nat.le_of_ble_eq_true rfl⟩
theorem andZp (z : Byte) : Statement (.andZp z) := ⟨rfl, rfl, Nat.le_of_ble_eq_true rfl⟩
theorem andImm (v : Byte) : Statement (.andImm v) := ⟨rfl, rfl, Nat.le_of_ble_eq_true rfl⟩
theorem andAbs (a : Word) : Statement (.andAbs a) := ⟨rfl, rfl, Nat.le_of_ble_eq_true rfl⟩
theorem andIndY (z : Byte) : Statement (.andIndY z) := ⟨rfl, rfl, Nat.le_of_ble_eq_true rfl⟩
theorem andZpX (z : Byte) : Statement (.andZpX z) := ⟨rfl, rfl, Nat.le_of_ble_eq_true rfl⟩
theorem andAbsY (a : Word) : Statement (.andAbsY a) := ⟨rfl, rfl, Nat.le_of_ble_eq_true rfl⟩
theorem andAbsX (a : Word) : Statement (.andAbsX a) := ⟨rfl, rfl, Nat.le_of_ble_eq_true rfl⟩
theorem oraIndX (z : Byte) : Statement (.oraIndX z) := ⟨rfl, rfl, Nat.le_of_ble_eq_true rfl⟩
theorem oraZp (z : Byte) : Statement (.oraZp z) := ⟨rfl, rfl, Nat.le_of_ble_eq_true rfl⟩
theorem oraImm (v : Byte) : Statement (.oraImm v) := ⟨rfl, rfl, Nat.le_of_ble_eq_true rfl⟩
theorem oraAbs (a : Word) : Statement (.oraAbs a) := ⟨rfl, rfl, Nat.le_of_ble_eq_true rfl⟩
theorem oraIndY (z : Byte) : Statement (.oraIndY z) := ⟨rfl, rfl, Nat.le_of_ble_eq_true rfl⟩
theorem oraZpX (z : Byte) : Statement (.oraZpX z) := ⟨rfl, rfl, Nat.le_of_ble_eq_true rfl⟩
theorem oraAbsY (a : Word) : Statement (.oraAbsY a) := ⟨rfl, rfl, Nat.le_of_ble_eq_true rfl⟩
theorem oraAbsX (a : Word) : Statement (.oraAbsX a) := ⟨rfl, rfl, Nat.le_of_ble_eq_true rfl⟩
theorem eorIndX (z : Byte) : Statement (.eorIndX z) := ⟨rfl, rfl, Nat.le_of_ble_eq_true rfl⟩
theorem eorZp (z : Byte) : Statement (.eorZp z) := ⟨rfl, rfl, Nat.le_of_ble_eq_true rfl⟩
theorem eorImm (v : Byte) : Statement (.eorImm v) := ⟨rfl, rfl, Nat.le_of_ble_eq_true rfl⟩
theorem eorAbs (a : Word) : Statement (.eorAbs a) := ⟨rfl, rfl, Nat.le_of_ble_eq_true rfl⟩
theorem eorIndY (z : Byte) : Statement (.eorIndY z) := ⟨rfl, rfl, Nat.le_of_ble_eq_true rfl⟩
theorem eorZpX (z : Byte) : Statement (.eorZpX z) := ⟨rfl, rfl, Nat.le_of_ble_eq_true rfl⟩
theorem eorAbsY (a : Word) : Statement (.eorAbsY a) := ⟨rfl, rfl, Nat.le_of_ble_eq_true rfl⟩
theorem eorAbsX (a : Word) : Statement (.eorAbsX a) := ⟨rfl, rfl, Nat.le_of_ble_eq_true rfl⟩
theorem bitZp (z : Byte) : Statement (.bitZp z) := ⟨rfl, rfl, Nat.le_of_ble_eq_true rfl⟩
theorem bitAbs (a : Word) : Statement (.bitAbs a) := ⟨rfl, rfl, Nat.le_of_ble_eq_true rfl⟩
theorem aslZp (z : Byte) : Statement (.aslZp z) := ⟨rfl, rfl, Nat.le_of_ble_eq_true rfl⟩
theorem aslA : Statement (.aslA) := ⟨rfl, rfl, Nat.le_of_ble_eq_true rfl⟩
theorem aslAbs (a : Word) : Statement (.aslAbs a) := ⟨rfl, rfl, Nat.le_of_ble_eq_true rfl⟩
theorem aslZpX (z : Byte) : Statement (.aslZpX z) := ⟨rfl, rfl, Nat.le_of_ble_eq_true rfl⟩
theorem aslAbsX (a : Word) : Statement (.aslAbsX a) := ⟨rfl, rfl, Nat.le_of_ble_eq_true rfl⟩
theorem lsrZp (z : Byte) : Statement (.lsrZp z) := ⟨rfl, rfl, Nat.le_of_ble_eq_true rfl⟩
theorem lsrA : Statement (.lsrA) := ⟨rfl, rfl, Nat.le_of_ble_eq_true rfl⟩
theorem lsrAbs (a : Word) : Statement (.lsrAbs a) := ⟨rfl, rfl, Nat.le_of_ble_eq_true rfl⟩
theorem lsrZpX (z : Byte) : Statement (.lsrZpX z) := ⟨rfl, rfl, Nat.le_of_ble_eq_true rfl⟩
theorem lsrAbsX (a : Word) : Statement (.lsrAbsX a) := ⟨rfl, rfl, Nat.le_of_ble_eq_true rfl⟩
theorem rolZp (z : Byte) : Statement (.rolZp z) := ⟨rfl, rfl, Nat.le_of_ble_eq_true rfl⟩
theorem rolA : Statement (.rolA) := ⟨rfl, rfl, Nat.le_of_ble_eq_true rfl⟩
theorem rolAbs (a : Word) : Statement (.rolAbs a) := ⟨rfl, rfl, Nat.le_of_ble_eq_true rfl⟩
theorem rolZpX (z : Byte) : Statement (.rolZpX z) := ⟨rfl, rfl, Nat.le_of_ble_eq_true rfl⟩
theorem rolAbsX (a : Word) : Statement (.rolAbsX a) := ⟨rfl, rfl, Nat.le_of_ble_eq_true rfl⟩
theorem rorZp (z : Byte) : Statement (.rorZp z) := ⟨rfl, rfl, Nat.le_of_ble_eq_true rfl⟩
theorem rorA : Statement (.rorA) := ⟨rfl, rfl, Nat.le_of_ble_eq_true rfl⟩
theorem rorAbs (a : Word) : Statement (.rorAbs a) := ⟨rfl, rfl, Nat.le_of_ble_eq_true rfl⟩
theorem rorZpX (z : Byte) : Statement (.rorZpX z) := ⟨rfl, rfl, Nat.le_of_ble_eq_true rfl⟩
theorem rorAbsX (a : Word) : Statement (.rorAbsX a) := ⟨rfl, rfl, Nat.le_of_ble_eq_true rfl⟩
theorem ldaIndX (z : Byte) : Statement (.ldaIndX z) := ⟨rfl, rfl, Nat.le_of_ble_eq_true rfl⟩
theorem ldaZp (z : Byte) : Statement (.ldaZp z) := ⟨rfl, rfl, Nat.le_of_ble_eq_true rfl⟩
theorem ldaImm (v : Byte) : Statement (.ldaImm v) := ⟨rfl, rfl, Nat.le_of_ble_eq_true rfl⟩
theorem ldaAbs (a : Word) : Statement (.ldaAbs a) := ⟨rfl, rfl, Nat.le_of_ble_eq_true rfl⟩
theorem ldaIndY (z : Byte) : Statement (.ldaIndY z) := ⟨rfl, rfl, Nat.le_of_ble_eq_true rfl⟩
theorem ldaZpX (z : Byte) : Statement (.ldaZpX z) := ⟨rfl, rfl, Nat.le_of_ble_eq_true rfl⟩
theorem ldaAbsY (a : Word) : Statement (.ldaAbsY a) := ⟨rfl, rfl, Nat.le_of_ble_eq_true rfl⟩
theorem ldaAbsX (a : Word) : Statement (.ldaAbsX a) := ⟨rfl, rfl, Nat.le_of_ble_eq_true rfl⟩
theorem ldxImm (v : Byte) : Statement (.ldxImm v) := ⟨rfl, rfl, Nat.le_of_ble_eq_true rfl⟩
theorem ldxZp (z : Byte) : Statement (.ldxZp z) := ⟨rfl, rfl, Nat.le_of_ble_eq_true rfl⟩
theorem ldxAbs (a : Word) : Statement (.ldxAbs a) := ⟨rfl, rfl, Nat.le_of_ble_eq_true rfl⟩
theorem ldxZpY (z : Byte) : Statement (.ldxZpY z) := ⟨rfl, rfl, Nat.le_of_ble_eq_true rfl⟩
theorem ldxAbsY (a : Word) : Statement (.ldxAbsY a) := ⟨rfl, rfl, Nat.le_of_ble_eq_true rfl⟩
theorem ldyImm (v : Byte) : Statement (.ldyImm v) := ⟨rfl, rfl, Nat.le_of_ble_eq_true rfl⟩
theorem ldyZp (z : Byte) : Statement (.ldyZp z) := ⟨rfl, rfl, Nat.le_of_ble_eq_true rfl⟩
theorem ldyAbs (a : Word) : Statement (.ldyAbs a) := ⟨rfl, rfl, Nat.le_of_ble_eq_true rfl⟩
theorem ldyZpX (z : Byte) : Statement (.ldyZpX z) := ⟨rfl, rfl, Nat.le_of_ble_eq_true rfl⟩
theorem ldyAbsX (a : Word) : Statement (.ldyAbsX a) := ⟨rfl, rfl, Nat.le_of_ble_eq_true rfl⟩
theorem staIndX (z : Byte) : Statement (.staIndX z) := ⟨rfl, rfl, Nat.le_of_ble_eq_true rfl⟩
theorem staZp (z : Byte) : Statement (.staZp z) := ⟨rfl, rfl, Nat.le_of_ble_eq_true rfl⟩
theorem staAbs (a : Word) : Statement (.staAbs a) := ⟨rfl, rfl, Nat.le_of_ble_eq_true rfl⟩
theorem staIndY (z : Byte) : Statement (.staIndY z) := ⟨rfl, rfl, Nat.le_of_ble_eq_true rfl⟩
theorem staZpX (z : Byte) : Statement (.staZpX z) := ⟨rfl, rfl, Nat.le_of_ble_eq_true rfl⟩
theorem staAbsY (a : Word) : Statement (.staAbsY a) := ⟨rfl, rfl, Nat.le_of_ble_eq_true rfl⟩
theorem staAbsX (a : Word) : Statement (.staAbsX a) := ⟨rfl, rfl, Nat.le_of_ble_eq_true rfl⟩
theorem stxZp (z : Byte) : Statement (.stxZp z) := ⟨rfl, rfl, Nat.le_of_ble_eq_true rfl⟩
theorem stxAbs (a : Word) : Statement (.stxAbs a) := ⟨rfl, rfl, Nat.le_of_ble_eq_true rfl⟩
theorem stxZpY (z : Byte) : Statement (.stxZpY z) := ⟨rfl, rfl, Nat.le_of_ble_eq_true rfl⟩
theorem styZp (z : Byte) : Statement (.styZp z) := ⟨rfl, rfl, Nat.le_of_ble_eq_true rfl⟩
theorem styAbs (a : Word) : Statement (.styAbs a) := ⟨rfl, rfl, Nat.le_of_ble_eq_true rfl⟩
theorem styZpX (z : Byte) : Statement (.styZpX z) := ⟨rfl, rfl, Nat.le_of_ble_eq_true rfl⟩
theorem tax : Statement (.tax) := ⟨rfl, rfl, Nat.le_of_ble_eq_true rfl⟩
theorem tay : Statement (.tay) := ⟨rfl, rfl, Nat.le_of_ble_eq_true rfl⟩
theorem txa : Statement (.txa) := ⟨rfl, rfl, Nat.le_of_ble_eq_true rfl⟩
theorem tya : Statement (.tya) := ⟨rfl, rfl, Nat.le_of_ble_eq_true rfl⟩
theorem tsx : Statement (.tsx) := ⟨rfl, rfl, Nat.le_of_ble_eq_true rfl⟩
theorem txs : Statement (.txs) := ⟨rfl, rfl, Nat.le_of_ble_eq_true rfl⟩
theorem cmpIndX (z : Byte) : Statement (.cmpIndX z) := ⟨rfl, rfl, Nat.le_of_ble_eq_true rfl⟩
theorem cmpZp (z : Byte) : Statement (.cmpZp z) := ⟨rfl, rfl, Nat.le_of_ble_eq_true rfl⟩
theorem cmpImm (v : Byte) : Statement (.cmpImm v) := ⟨rfl, rfl, Nat.le_of_ble_eq_true rfl⟩
theorem cmpAbs (a : Word) : Statement (.cmpAbs a) := ⟨rfl, rfl, Nat.le_of_ble_eq_true rfl⟩
theorem cmpIndY (z : Byte) : Statement (.cmpIndY z) := ⟨rfl, rfl, Nat.le_of_ble_eq_true rfl⟩
theorem cmpZpX (z : Byte) : Statement (.cmpZpX z) := ⟨rfl, rfl, Nat.le_of_ble_eq_true rfl⟩
theorem cmpAbsY (a : Word) : Statement (.cmpAbsY a) := ⟨rfl, rfl, Nat.le_of_ble_eq_true rfl⟩
theorem cmpAbsX (a : Word) : Statement (.cmpAbsX a) := ⟨rfl, rfl, Nat.le_of_ble_eq_true rfl⟩
theorem cpxImm (v : Byte) : Statement (.cpxImm v) := ⟨rfl, rfl, Nat.le_of_ble_eq_true rfl⟩
theorem cpxZp (z : Byte) : Statement (.cpxZp z) := ⟨rfl, rfl, Nat.le_of_ble_eq_true rfl⟩
theorem cpxAbs (a : Word) : Statement (.cpxAbs a) := ⟨rfl, rfl, Nat.le_of_ble_eq_true rfl⟩
theorem cpyImm (v : Byte) : Statement (.cpyImm v) := ⟨rfl, rfl, Nat.le_of_ble_eq_true rfl⟩
theorem cpyZp (z : Byte) : Statement (.cpyZp z) := ⟨rfl, rfl, Nat.le_of_ble_eq_true rfl⟩
theorem cpyAbs (a : Word) : Statement (.cpyAbs a) := ⟨rfl, rfl, Nat.le_of_ble_eq_true rfl⟩
theorem bpl (r : Byte) : Statement (.bpl r) := ⟨rfl, rfl, Nat.le_of_ble_eq_true rfl⟩
theorem bmi (r : Byte) : Statement (.bmi r) := ⟨rfl, rfl, Nat.le_of_ble_eq_true rfl⟩
theorem bvc (r : Byte) : Statement (.bvc r) := ⟨rfl, rfl, Nat.le_of_ble_eq_true rfl⟩
theorem bvs (r : Byte) : Statement (.bvs r) := ⟨rfl, rfl, Nat.le_of_ble_eq_true rfl⟩
theorem bcc (r : Byte) : Statement (.bcc r) := ⟨rfl, rfl, Nat.le_of_ble_eq_true rfl⟩
theorem bcs (r : Byte) : Statement (.bcs r) := ⟨rfl, rfl, Nat.le_of_ble_eq_true rfl⟩
theorem bne (r : Byte) : Statement (.bne r) := ⟨rfl, rfl, Nat.le_of_ble_eq_true rfl⟩
theorem beq (r : Byte) : Statement (.beq r) := ⟨rfl, rfl, Nat.le_of_ble_eq_true rfl⟩
theorem pha : Statement (.pha) := ⟨rfl, rfl, Nat.le_of_ble_eq_true rfl⟩
theorem php : Statement (.php) := ⟨rfl, rfl, Nat.le_of_ble_eq_true rfl⟩
theorem pla : Statement (.pla) := ⟨rfl, rfl, Nat.le_of_ble_eq_true rfl⟩
theorem plp : Statement (.plp) := ⟨rfl, rfl, Nat.le_of_ble_eq_true rfl⟩
theorem jmpAbs (a : Word) : Statement (.jmpAbs a) := ⟨rfl, rfl, Nat.le_of_ble_eq_true rfl⟩
theorem jmpInd (ptr : Word) : Statement (.jmpInd ptr) := ⟨rfl, rfl, Nat.le_of_ble_eq_true rfl⟩
theorem jsrAbs (a : Word) : Statement (.jsrAbs a) := ⟨rfl, rfl, Nat.le_of_ble_eq_true rfl⟩
theorem rts : Statement (.rts) := ⟨rfl, rfl, Nat.le_of_ble_eq_true rfl⟩
theorem clc : Statement (.clc) := ⟨rfl, rfl, Nat.le_of_ble_eq_true rfl⟩
theorem sec : Statement (.sec) := ⟨rfl, rfl, Nat.le_of_ble_eq_true rfl⟩
theorem cli : Statement (.cli) := ⟨rfl, rfl, Nat.le_of_ble_eq_true rfl⟩
theorem sei : Statement (.sei) := ⟨rfl, rfl, Nat.le_of_ble_eq_true rfl⟩
theorem cld : Statement (.cld) := ⟨rfl, rfl, Nat.le_of_ble_eq_true rfl⟩
theorem sed : Statement (.sed) := ⟨rfl, rfl, Nat.le_of_ble_eq_true rfl⟩
theorem clv : Statement (.clv) := ⟨rfl, rfl, Nat.le_of_ble_eq_true rfl⟩
theorem nop : Statement (.nop) := ⟨rfl, rfl, Nat.le_of_ble_eq_true rfl⟩
theorem brk : Statement (.brk) := ⟨rfl, rfl, Nat.le_of_ble_eq_true rfl⟩
theorem rti : Statement (.rti) := ⟨rfl, rfl, Nat.le_of_ble_eq_true rfl⟩

end Sys2Proof.Laws.FormLength
end

