-- ==== Sys2Proof/Laws/Schedule.lean ====
section
/-! SUPPORT. No instruction depends on the host's schedule or changes it (R418, log 7): each shared operation, and so `exec` and
the cycle count, commutes with `State.setHost`. -/

namespace Sys2Proof.Machine

section setHost
variable (s : State) (hs : List HostCall)

theorem ea_setHost (m : AddrMode) : m.ea (s.setHost hs) = m.ea s := by cases m <;> rfl

theorem value_setHost (o : Operand) : o.value (s.setHost hs) = o.value s := by
  cases o with
  | imm _ => rfl
  | loc l => cases l with
    | acc => rfl
    | mem m => simp only [Operand.value, Loc.value, ea_setHost, State.setHost_read]

theorem adc_setHost (o : Operand) : adc o (s.setHost hs) = (adc o s).setHost hs := by
  simp only [adc, value_setHost]; rfl

theorem sbc_setHost (o : Operand) : sbc o (s.setHost hs) = (sbc o s).setHost hs := by
  simp only [sbc, value_setHost]; rfl

theorem readModifyWrite_setHost (f : Byte → Flags → Byte × Flags) (l : Loc) :
    readModifyWrite f l (s.setHost hs) = (readModifyWrite f l s).setHost hs := by
  cases l with
  | acc => rfl
  | mem m => simp only [readModifyWrite, Loc.value, Loc.put, ea_setHost]; rfl

theorem storeByte_setHost (v : Byte) (m : AddrMode) : storeByte v m (s.setHost hs) = (storeByte v m s).setHost hs := by
  simp only [storeByte, ea_setHost]; rfl

theorem bitTest_setHost (o : Operand) : bitTest o (s.setHost hs) = (bitTest o s).setHost hs := by
  simp only [bitTest, value_setHost]; rfl

theorem compareWith_setHost (r : Byte) (o : Operand) :
    compareWith r o (s.setHost hs) = (compareWith r o s).setHost hs := by
  simp only [compareWith, value_setHost]; rfl

theorem jump_setHost (m : AddrMode) : jump m (s.setHost hs) = (jump m s).setHost hs := by
  simp only [jump, ea_setHost]; rfl

theorem callSubroutine_setHost (m : AddrMode) :
    callSubroutine m (s.setHost hs) = (callSubroutine m s).setHost hs := by
  simp only [callSubroutine, ea_setHost]; rfl

end setHost

theorem Meaning.setHost {s t : State} {op : Op} {o : Option Operand} (h : Meaning s op o t) (hs : List HostCall) :
    Meaning (s.setHost hs) op o (t.setHost hs) := by
  cases h
  all_goals first
    | (simp only [← value_setHost s hs, ← adc_setHost, ← sbc_setHost, ← readModifyWrite_setHost, ← storeByte_setHost,
        ← bitTest_setHost, ← compareWith_setHost, ← jump_setHost, ← callSubroutine_setHost]; constructor)
    | constructor

/-- A mnemonic and an operand leave one state. -/
theorem Meaning.unique {s t u : State} {op : Op} {o : Option Operand} (h : Meaning s op o t) (h' : Meaning s op o u) :
    t = u := by
  cases h <;> cases h' <;> rfl

theorem exec_setHost {i : Instr} {s t : State} (h : exec i s = .next t) (hs : List HostCall) :
    exec i (s.setHost hs) = .next (t.setHost hs) := by
  obtain ⟨_, _, u, rfl, rfl, hu, hm⟩ := exec_meaning i s
  obtain ⟨_, _, u', rfl, rfl, hu', hm'⟩ := exec_meaning i (s.setHost hs)
  obtain rfl : t = u := by rw [h] at hu; injection hu
  rw [hu', hm'.unique (hm.setHost hs)]

theorem cycles_setHost (i : Instr) (s : State) (hs : List HostCall) : i.cycles (s.setHost hs) = i.cycles s := by
  have h : i.crossed (s.setHost hs) = i.crossed s := by
    unfold Instr.crossed
    split
    · rename_i m _; cases m <;> rfl
    all_goals rfl
  simp only [Instr.cycles, h]
  rfl

end Sys2Proof.Machine
end

