-- ==== Sys2Proof/Laws/Stack.lean ====
section
/-! SUPPORT. The stack page apart from the rest of memory (spec/10_state.md R24), and what the pushes of an entry leave there
(spec/60_exceptions.md R405). -/

namespace Sys2Proof.Machine

theorem sub_one_sub_one (p : Byte) : p - 1#8 - 1#8 = p - 2#8 := by
  rw [BitVec.sub_sub]; rfl

theorem sub_one_sub_one_sub_one (p : Byte) : p - 1#8 - 1#8 - 1#8 = p - 3#8 := by
  rw [BitVec.sub_sub, BitVec.sub_sub]; rfl

theorem add_one_add_one (p : Byte) : p + 1#8 + 1#8 = p + 2#8 := by
  rw [BitVec.add_assoc]; rfl

theorem add_one_add_one_add_one (p : Byte) : p + 1#8 + 1#8 + 1#8 = p + 3#8 := by
  rw [BitVec.add_assoc, BitVec.add_assoc]; rfl

theorem stackAddr_inj {p q : Byte} : stackAddr p = stackAddr q ↔ p = q :=
  ⟨State.stackAddr_injective, congrArg stackAddr⟩

theorem stackAddr_ne {p q : Byte} (h : p.toNat ≠ q.toNat) : stackAddr p ≠ stackAddr q :=
  fun e => h (congrArg BitVec.toNat (stackAddr_inj.mp e))

/-- The stack bytes of S and S - 1, of S and S - 2, and of S - 1 and S - 2 are distinct. -/
theorem stackAddr_sub_ne (p : Byte) :
    stackAddr p ≠ stackAddr (p - 1#8) ∧ stackAddr p ≠ stackAddr (p - 2#8) ∧ stackAddr (p - 1#8) ≠ stackAddr (p - 2#8) := by
  have h1 : (1#8).toNat = 1 := rfl
  have h2 : (2#8).toNat = 2 := rfl
  have hp := p.isLt
  refine ⟨stackAddr_ne ?_, stackAddr_ne ?_, stackAddr_ne ?_⟩ <;> simp only [BitVec.toNat_sub, h1, h2] <;> omega

/-- An address outside the stack page is no stack byte. -/
theorem ne_stackAddr {a : Word} (h : hiByte a ≠ 0x01#8) (p : Byte) : a ≠ stackAddr p := by
  intro e
  apply h
  rw [e]
  simp only [hiByte, stackAddr, wordOf]
  exact BitVec.extractLsb'_append_eq_left

/-! ## A word and its two bytes (R10) -/

theorem wordOf_toNat (lo hi : Byte) : (wordOf lo hi).toNat = 256 * hi.toNat + lo.toNat := by
  rw [wordOf, BitVec.toNat_append, ← Nat.shiftLeft_add_eq_or_of_lt lo.isLt, Nat.shiftLeft_eq]
  omega

theorem hiByte_toNat (w : Word) : (hiByte w).toNat = w.toNat / 256 := by
  have := w.isLt
  simp only [hiByte, BitVec.extractLsb'_toNat, Nat.shiftRight_eq_div_pow]
  omega

theorem loByte_toNat (w : Word) : (loByte w).toNat = w.toNat % 256 := by
  simp [loByte]

@[simp] theorem wordOf_loByte_hiByte (w : Word) : wordOf (loByte w) (hiByte w) = w := by
  apply BitVec.eq_of_toNat_eq
  rw [wordOf_toNat, hiByte_toNat, loByte_toNat]
  omega

theorem hiByte_eq_ofNat (w : Word) : hiByte w = BitVec.ofNat 8 (w.toNat / 256) := by
  have := w.isLt
  apply BitVec.eq_of_toNat_eq
  rw [hiByte_toNat, BitVec.toNat_ofNat]
  omega

theorem loByte_eq_ofNat (w : Word) : loByte w = BitVec.ofNat 8 w.toNat := by
  apply BitVec.eq_of_toNat_eq
  rw [loByte_toNat, BitVec.toNat_ofNat]

/-- S after three pulls from three pushes. -/
theorem sub_three_add (p : Byte) : p - 3#8 + 1#8 = p - 2#8 ∧ p - 3#8 + 2#8 = p - 1#8 ∧ p - 3#8 + 3#8 = p := by
  have h := p.isLt
  have h1 : (1#8).toNat = 1 := rfl
  have h2 : (2#8).toNat = 2 := rfl
  have h3 : (3#8).toNat = 3 := rfl
  refine ⟨?_, ?_, ?_⟩ <;> apply BitVec.eq_of_toNat_eq <;> simp only [BitVec.toNat_sub, BitVec.toNat_add, h1, h2, h3] <;> omega

/-- S after two pulls from two pushes. -/
theorem sub_two_add (p : Byte) : p - 2#8 + 1#8 = p - 1#8 ∧ p - 2#8 + 2#8 = p := by
  have h := p.isLt
  have h1 : (1#8).toNat = 1 := rfl
  have h2 : (2#8).toNat = 2 := rfl
  refine ⟨?_, ?_⟩ <;> apply BitVec.eq_of_toNat_eq <;> simp only [BitVec.toNat_sub, BitVec.toNat_add, h1, h2] <;> omega

namespace State

/-- What a push leaves at any address. -/
theorem read_push {s : State} (h : s.mem.wf = true) (v : Byte) (b : Word) :
    (s.push v).read b = if b = stackAddr s.sp then v else s.read b := by
  split
  · rename_i e; rw [e]; exact read_push_eq h v
  · rename_i e; exact read_push_ne s v e

/-- What the three pushes of an entry leave at any address. -/
theorem read_interruptEntry {s : State} (h : s.mem.wf = true) (vec : Word) (b : Bool) (k : Word) :
    (s.interruptEntry vec b).read k =
      if k = stackAddr (s.sp - 2#8) then packP s.p b
      else if k = stackAddr (s.sp - 1#8) then loByte s.pc
      else if k = stackAddr s.sp then hiByte s.pc
      else s.read k := by
  rw [← sub_one_sub_one, read_of_mem_eq (interruptEntry_mem s vec b) k, read_push (push_wf (push_wf h _) _), read_push (push_wf h _), read_push h]
  rfl

/-- A word outside the stack page reads after an entry's pushes as before them. -/
theorem read16_interruptEntry {s : State} (vec : Word) (b : Bool) {a : Word} (h0 : hiByte a ≠ 0x01#8)
    (h1 : hiByte (a + 1#16) ≠ 0x01#8) : (s.interruptEntry vec b).read16 a = s.read16 a := by
  simp only [State.read16]
  rw [read_interruptEntry_ne s vec b (ne_stackAddr h0 _) (ne_stackAddr h0 _) (ne_stackAddr h0 _),
    read_interruptEntry_ne s vec b (ne_stackAddr h1 _) (ne_stackAddr h1 _) (ne_stackAddr h1 _)]

/-- PC after an entry through one of the vectors: the vector's word in the memory before it. -/
theorem interruptEntry_pc_of_vector (s : State) (b : Bool) {vec : Word} (h0 : hiByte vec ≠ 0x01#8)
    (h1 : hiByte (vec + 1#16) ≠ 0x01#8) : (s.interruptEntry vec b).pc = s.read16 vec := by
  rw [interruptEntry_pc, ← read16_interruptEntry (s := s) vec b h0 h1]
  simp only [State.read16, State.read, interruptEntry_mem]

end State

end Sys2Proof.Machine
end

