-- ==== Sys2Proof/Tests/Slice0.lean ====
section
/-! SUPPORT. Tests: every constructor's decoding from words written out from R103's listing, the well-formedness smoke test, worked
vectors of spec/95_test_vectors.md, and a named witness of the hypotheses of every statement that has some. -/

namespace Sys2Proof.Tests

open Sys2Proof.Machine Sys2Proof.Safety

/-! ## Decoding: opcode byte, then the operand low byte first (R100, R103) -/

theorem test_decode_arithmetic1 :
    decode [0x61#8, 0x9C#8] = .instr (.adcIndX 0x9C#8) ∧
    decode [0x65#8, 0x9C#8] = .instr (.adcZp 0x9C#8) ∧
    decode [0x69#8, 0x9C#8] = .instr (.adcImm 0x9C#8) ∧
    decode [0x6D#8, 0x34#8, 0x92#8] = .instr (.adcAbs 0x9234#16) ∧
    decode [0x71#8, 0x9C#8] = .instr (.adcIndY 0x9C#8) ∧
    decode [0x75#8, 0x9C#8] = .instr (.adcZpX 0x9C#8) ∧
    decode [0x79#8, 0x34#8, 0x92#8] = .instr (.adcAbsY 0x9234#16) ∧
    decode [0x7D#8, 0x34#8, 0x92#8] = .instr (.adcAbsX 0x9234#16) ∧
    decode [0xE1#8, 0x9C#8] = .instr (.sbcIndX 0x9C#8) ∧
    decode [0xE5#8, 0x9C#8] = .instr (.sbcZp 0x9C#8) ∧
    decode [0xE9#8, 0x9C#8] = .instr (.sbcImm 0x9C#8) ∧
    decode [0xED#8, 0x34#8, 0x92#8] = .instr (.sbcAbs 0x9234#16) ∧
    decode [0xF1#8, 0x9C#8] = .instr (.sbcIndY 0x9C#8) ∧
    decode [0xF5#8, 0x9C#8] = .instr (.sbcZpX 0x9C#8) ∧
    decode [0xF9#8, 0x34#8, 0x92#8] = .instr (.sbcAbsY 0x9234#16) ∧
    decode [0xFD#8, 0x34#8, 0x92#8] = .instr (.sbcAbsX 0x9234#16) ∧
    decode [0xE6#8, 0x9C#8] = .instr (.incZp 0x9C#8) ∧
    decode [0xEE#8, 0x34#8, 0x92#8] = .instr (.incAbs 0x9234#16) ∧
    decode [0xF6#8, 0x9C#8] = .instr (.incZpX 0x9C#8) ∧
    decode [0xFE#8, 0x34#8, 0x92#8] = .instr (.incAbsX 0x9234#16) := by decide

theorem test_decode_arithmetic2 :
    decode [0xC6#8, 0x9C#8] = .instr (.decZp 0x9C#8) ∧
    decode [0xCE#8, 0x34#8, 0x92#8] = .instr (.decAbs 0x9234#16) ∧
    decode [0xD6#8, 0x9C#8] = .instr (.decZpX 0x9C#8) ∧
    decode [0xDE#8, 0x34#8, 0x92#8] = .instr (.decAbsX 0x9234#16) ∧
    decode [0xE8#8] = .instr .inx ∧
    decode [0xC8#8] = .instr .iny ∧
    decode [0xCA#8] = .instr .dex ∧
    decode [0x88#8] = .instr .dey := by decide

theorem test_decode_logical1 :
    decode [0x21#8, 0x9C#8] = .instr (.andIndX 0x9C#8) ∧
    decode [0x25#8, 0x9C#8] = .instr (.andZp 0x9C#8) ∧
    decode [0x29#8, 0x9C#8] = .instr (.andImm 0x9C#8) ∧
    decode [0x2D#8, 0x34#8, 0x92#8] = .instr (.andAbs 0x9234#16) ∧
    decode [0x31#8, 0x9C#8] = .instr (.andIndY 0x9C#8) ∧
    decode [0x35#8, 0x9C#8] = .instr (.andZpX 0x9C#8) ∧
    decode [0x39#8, 0x34#8, 0x92#8] = .instr (.andAbsY 0x9234#16) ∧
    decode [0x3D#8, 0x34#8, 0x92#8] = .instr (.andAbsX 0x9234#16) ∧
    decode [0x01#8, 0x9C#8] = .instr (.oraIndX 0x9C#8) ∧
    decode [0x05#8, 0x9C#8] = .instr (.oraZp 0x9C#8) ∧
    decode [0x09#8, 0x9C#8] = .instr (.oraImm 0x9C#8) ∧
    decode [0x0D#8, 0x34#8, 0x92#8] = .instr (.oraAbs 0x9234#16) ∧
    decode [0x11#8, 0x9C#8] = .instr (.oraIndY 0x9C#8) ∧
    decode [0x15#8, 0x9C#8] = .instr (.oraZpX 0x9C#8) ∧
    decode [0x19#8, 0x34#8, 0x92#8] = .instr (.oraAbsY 0x9234#16) ∧
    decode [0x1D#8, 0x34#8, 0x92#8] = .instr (.oraAbsX 0x9234#16) ∧
    decode [0x41#8, 0x9C#8] = .instr (.eorIndX 0x9C#8) ∧
    decode [0x45#8, 0x9C#8] = .instr (.eorZp 0x9C#8) ∧
    decode [0x49#8, 0x9C#8] = .instr (.eorImm 0x9C#8) ∧
    decode [0x4D#8, 0x34#8, 0x92#8] = .instr (.eorAbs 0x9234#16) := by decide

theorem test_decode_logical2 :
    decode [0x51#8, 0x9C#8] = .instr (.eorIndY 0x9C#8) ∧
    decode [0x55#8, 0x9C#8] = .instr (.eorZpX 0x9C#8) ∧
    decode [0x59#8, 0x34#8, 0x92#8] = .instr (.eorAbsY 0x9234#16) ∧
    decode [0x5D#8, 0x34#8, 0x92#8] = .instr (.eorAbsX 0x9234#16) ∧
    decode [0x24#8, 0x9C#8] = .instr (.bitZp 0x9C#8) ∧
    decode [0x2C#8, 0x34#8, 0x92#8] = .instr (.bitAbs 0x9234#16) := by decide

theorem test_decode_shiftRotate :
    decode [0x06#8, 0x9C#8] = .instr (.aslZp 0x9C#8) ∧
    decode [0x0A#8] = .instr .aslA ∧
    decode [0x0E#8, 0x34#8, 0x92#8] = .instr (.aslAbs 0x9234#16) ∧
    decode [0x16#8, 0x9C#8] = .instr (.aslZpX 0x9C#8) ∧
    decode [0x1E#8, 0x34#8, 0x92#8] = .instr (.aslAbsX 0x9234#16) ∧
    decode [0x46#8, 0x9C#8] = .instr (.lsrZp 0x9C#8) ∧
    decode [0x4A#8] = .instr .lsrA ∧
    decode [0x4E#8, 0x34#8, 0x92#8] = .instr (.lsrAbs 0x9234#16) ∧
    decode [0x56#8, 0x9C#8] = .instr (.lsrZpX 0x9C#8) ∧
    decode [0x5E#8, 0x34#8, 0x92#8] = .instr (.lsrAbsX 0x9234#16) ∧
    decode [0x26#8, 0x9C#8] = .instr (.rolZp 0x9C#8) ∧
    decode [0x2A#8] = .instr .rolA ∧
    decode [0x2E#8, 0x34#8, 0x92#8] = .instr (.rolAbs 0x9234#16) ∧
    decode [0x36#8, 0x9C#8] = .instr (.rolZpX 0x9C#8) ∧
    decode [0x3E#8, 0x34#8, 0x92#8] = .instr (.rolAbsX 0x9234#16) ∧
    decode [0x66#8, 0x9C#8] = .instr (.rorZp 0x9C#8) ∧
    decode [0x6A#8] = .instr .rorA ∧
    decode [0x6E#8, 0x34#8, 0x92#8] = .instr (.rorAbs 0x9234#16) ∧
    decode [0x76#8, 0x9C#8] = .instr (.rorZpX 0x9C#8) ∧
    decode [0x7E#8, 0x34#8, 0x92#8] = .instr (.rorAbsX 0x9234#16) := by decide

theorem test_decode_loadStore1 :
    decode [0xA1#8, 0x9C#8] = .instr (.ldaIndX 0x9C#8) ∧
    decode [0xA5#8, 0x9C#8] = .instr (.ldaZp 0x9C#8) ∧
    decode [0xA9#8, 0x9C#8] = .instr (.ldaImm 0x9C#8) ∧
    decode [0xAD#8, 0x34#8, 0x92#8] = .instr (.ldaAbs 0x9234#16) ∧
    decode [0xB1#8, 0x9C#8] = .instr (.ldaIndY 0x9C#8) ∧
    decode [0xB5#8, 0x9C#8] = .instr (.ldaZpX 0x9C#8) ∧
    decode [0xB9#8, 0x34#8, 0x92#8] = .instr (.ldaAbsY 0x9234#16) ∧
    decode [0xBD#8, 0x34#8, 0x92#8] = .instr (.ldaAbsX 0x9234#16) ∧
    decode [0xA2#8, 0x9C#8] = .instr (.ldxImm 0x9C#8) ∧
    decode [0xA6#8, 0x9C#8] = .instr (.ldxZp 0x9C#8) ∧
    decode [0xAE#8, 0x34#8, 0x92#8] = .instr (.ldxAbs 0x9234#16) ∧
    decode [0xB6#8, 0x9C#8] = .instr (.ldxZpY 0x9C#8) ∧
    decode [0xBE#8, 0x34#8, 0x92#8] = .instr (.ldxAbsY 0x9234#16) ∧
    decode [0xA0#8, 0x9C#8] = .instr (.ldyImm 0x9C#8) ∧
    decode [0xA4#8, 0x9C#8] = .instr (.ldyZp 0x9C#8) ∧
    decode [0xAC#8, 0x34#8, 0x92#8] = .instr (.ldyAbs 0x9234#16) ∧
    decode [0xB4#8, 0x9C#8] = .instr (.ldyZpX 0x9C#8) ∧
    decode [0xBC#8, 0x34#8, 0x92#8] = .instr (.ldyAbsX 0x9234#16) ∧
    decode [0x81#8, 0x9C#8] = .instr (.staIndX 0x9C#8) ∧
    decode [0x85#8, 0x9C#8] = .instr (.staZp 0x9C#8) := by decide

theorem test_decode_loadStore2 :
    decode [0x8D#8, 0x34#8, 0x92#8] = .instr (.staAbs 0x9234#16) ∧
    decode [0x91#8, 0x9C#8] = .instr (.staIndY 0x9C#8) ∧
    decode [0x95#8, 0x9C#8] = .instr (.staZpX 0x9C#8) ∧
    decode [0x99#8, 0x34#8, 0x92#8] = .instr (.staAbsY 0x9234#16) ∧
    decode [0x9D#8, 0x34#8, 0x92#8] = .instr (.staAbsX 0x9234#16) ∧
    decode [0x86#8, 0x9C#8] = .instr (.stxZp 0x9C#8) ∧
    decode [0x8E#8, 0x34#8, 0x92#8] = .instr (.stxAbs 0x9234#16) ∧
    decode [0x96#8, 0x9C#8] = .instr (.stxZpY 0x9C#8) ∧
    decode [0x84#8, 0x9C#8] = .instr (.styZp 0x9C#8) ∧
    decode [0x8C#8, 0x34#8, 0x92#8] = .instr (.styAbs 0x9234#16) ∧
    decode [0x94#8, 0x9C#8] = .instr (.styZpX 0x9C#8) ∧
    decode [0xAA#8] = .instr .tax ∧
    decode [0xA8#8] = .instr .tay ∧
    decode [0x8A#8] = .instr .txa ∧
    decode [0x98#8] = .instr .tya ∧
    decode [0xBA#8] = .instr .tsx ∧
    decode [0x9A#8] = .instr .txs := by decide

theorem test_decode_compare :
    decode [0xC1#8, 0x9C#8] = .instr (.cmpIndX 0x9C#8) ∧
    decode [0xC5#8, 0x9C#8] = .instr (.cmpZp 0x9C#8) ∧
    decode [0xC9#8, 0x9C#8] = .instr (.cmpImm 0x9C#8) ∧
    decode [0xCD#8, 0x34#8, 0x92#8] = .instr (.cmpAbs 0x9234#16) ∧
    decode [0xD1#8, 0x9C#8] = .instr (.cmpIndY 0x9C#8) ∧
    decode [0xD5#8, 0x9C#8] = .instr (.cmpZpX 0x9C#8) ∧
    decode [0xD9#8, 0x34#8, 0x92#8] = .instr (.cmpAbsY 0x9234#16) ∧
    decode [0xDD#8, 0x34#8, 0x92#8] = .instr (.cmpAbsX 0x9234#16) ∧
    decode [0xE0#8, 0x9C#8] = .instr (.cpxImm 0x9C#8) ∧
    decode [0xE4#8, 0x9C#8] = .instr (.cpxZp 0x9C#8) ∧
    decode [0xEC#8, 0x34#8, 0x92#8] = .instr (.cpxAbs 0x9234#16) ∧
    decode [0xC0#8, 0x9C#8] = .instr (.cpyImm 0x9C#8) ∧
    decode [0xC4#8, 0x9C#8] = .instr (.cpyZp 0x9C#8) ∧
    decode [0xCC#8, 0x34#8, 0x92#8] = .instr (.cpyAbs 0x9234#16) := by decide

theorem test_decode_branch :
    decode [0x10#8, 0x9C#8] = .instr (.bpl 0x9C#8) ∧
    decode [0x30#8, 0x9C#8] = .instr (.bmi 0x9C#8) ∧
    decode [0x50#8, 0x9C#8] = .instr (.bvc 0x9C#8) ∧
    decode [0x70#8, 0x9C#8] = .instr (.bvs 0x9C#8) ∧
    decode [0x90#8, 0x9C#8] = .instr (.bcc 0x9C#8) ∧
    decode [0xB0#8, 0x9C#8] = .instr (.bcs 0x9C#8) ∧
    decode [0xD0#8, 0x9C#8] = .instr (.bne 0x9C#8) ∧
    decode [0xF0#8, 0x9C#8] = .instr (.beq 0x9C#8) := by decide

theorem test_decode_stack :
    decode [0x48#8] = .instr .pha ∧
    decode [0x08#8] = .instr .php ∧
    decode [0x68#8] = .instr .pla ∧
    decode [0x28#8] = .instr .plp := by decide

theorem test_decode_jump :
    decode [0x4C#8, 0x34#8, 0x92#8] = .instr (.jmpAbs 0x9234#16) ∧
    decode [0x6C#8, 0x34#8, 0x92#8] = .instr (.jmpInd 0x9234#16) ∧
    decode [0x20#8, 0x34#8, 0x92#8] = .instr (.jsrAbs 0x9234#16) ∧
    decode [0x60#8] = .instr .rts := by decide

theorem test_decode_flagsBreak :
    decode [0x18#8] = .instr .clc ∧
    decode [0x38#8] = .instr .sec ∧
    decode [0x58#8] = .instr .cli ∧
    decode [0x78#8] = .instr .sei ∧
    decode [0xD8#8] = .instr .cld ∧
    decode [0xF8#8] = .instr .sed ∧
    decode [0xB8#8] = .instr .clv ∧
    decode [0xEA#8] = .instr .nop ∧
    decode [0x00#8] = .instr .brk ∧
    decode [0x40#8] = .instr .rti := by decide

/-! ## Vectors of spec/95_test_vectors.md, section 2: one step each -/

/-- All flags 0. -/
def noFlags : Flags := ⟨false, false, false, false, false, false, false⟩

/-- The base state of those vectors: registers and flags 0, S = 0xFD, `pollI` = 0, with an instruction and data in memory. -/
def start (pc : Word) (bytes : List Byte) (data : List Host.Cell) : State :=
  let base : State := { State.reset with pc := pc, p := noFlags, pollI := false }
  data.foldl (fun s cell => s.write (BitVec.ofNat 16 cell.1) cell.2) (base.load pc bytes)

/-- The result is a next state that passes a check. -/
def nextIs (r : Result) (check : State → Bool) : Bool :=
  match r with
  | .next t => check t
  | .fault _ => false
  | .refused _ => false

theorem test_lda_abs_x_crossing :
    nextIs (step { start 0x0200#16 [0xBD#8, 0xFF#8, 0x20#8] [(0x2100, 0x66#8)] with
      x := 0x01#8 })
    (fun t => t.a == 0x66#8 && t.p == noFlags && t.cycles == 5) = true := by decide

theorem test_lda_abs_y_wraps_at_0xffff :
    nextIs (step { start 0x0200#16 [0xB9#8, 0xFF#8, 0xFF#8] [(0x0001, 0x77#8)] with
      y := 0x02#8 })
    (fun t => t.a == 0x77#8 && t.p == noFlags && t.cycles == 5) = true := by decide

theorem test_lda_zp_x_pointer_wraps_in_page_zero :
    nextIs (step { start 0x0200#16 [0xA1#8, 0xFE#8] [(0x00FF, 0x00#8), (0x0000, 0x30#8), (0x3000, 0x88#8)] with
      x := 0x01#8 })
    (fun t => t.a == 0x88#8 && t.p == { noFlags with n := true } && t.cycles == 6) = true := by decide

theorem test_lda_zp_y_pointer_at_0xff_wraps :
    nextIs (step { start 0x0200#16 [0xB1#8, 0xFF#8] [(0x00FF, 0x00#8), (0x0000, 0x40#8), (0x4000, 0xBB#8)] with
      y := 0x00#8 })
    (fun t => t.a == 0xBB#8 && t.p == { noFlags with n := true } && t.cycles == 5) = true := by decide

theorem test_sta_abs_x_crossing_no_penalty :
    nextIs (step { start 0x0200#16 [0x9D#8, 0xFF#8, 0x20#8] [] with
      a := 0x01#8, x := 0x01#8 })
    (fun t => t.read 0x2100#16 == 0x01#8 && t.p == noFlags && t.cycles == 5) = true := by decide

theorem test_adc_imm_signed_overflow_positive :
    nextIs (step { start 0x0200#16 [0x69#8, 0x01#8] [] with
      a := 0x7F#8 })
    (fun t => t.a == 0x80#8 && t.p == { noFlags with n := true, v := true } && t.cycles == 2) = true := by decide

theorem test_adc_imm_decimal_58_46_1 :
    nextIs (step { start 0x0200#16 [0x69#8, 0x46#8] [] with
      a := 0x58#8, p := { noFlags with d := true, c := true } })
    (fun t => t.a == 0x05#8 && t.p == { noFlags with n := true, v := true, d := true, c := true } &&
      t.cycles == 2) = true := by decide

theorem test_adc_abs_y_crossing :
    nextIs (step { start 0x0200#16 [0x79#8, 0xFF#8, 0x10#8] [(0x1100, 0x01#8)] with
      a := 0x01#8, y := 0x01#8 })
    (fun t => t.a == 0x02#8 && t.p == noFlags && t.cycles == 5) = true := by decide

theorem test_sbc_imm_signed_overflow_128_1 :
    nextIs (step { start 0x0200#16 [0xE9#8, 0x01#8] [] with
      a := 0x80#8, p := { noFlags with c := true } })
    (fun t => t.a == 0x7F#8 && t.p == { noFlags with v := true, c := true } && t.cycles == 2) = true := by decide

theorem test_sbc_imm_decimal_00_01 :
    nextIs (step { start 0x0200#16 [0xE9#8, 0x01#8] [] with
      a := 0x00#8, p := { noFlags with d := true, c := true } })
    (fun t => t.a == 0x99#8 && t.p == { noFlags with n := true, d := true } && t.cycles == 2) = true := by decide

theorem test_inc_zp_wraps :
    nextIs (step (start 0x0200#16 [0xE6#8, 0x10#8] [(0x0010, 0xFF#8)]))
    (fun t => t.read 0x0010#16 == 0x00#8 && t.p == { noFlags with z := true } && t.cycles == 5) = true := by decide

theorem test_inc_is_binary_with_d_1 :
    nextIs (step { start 0x0200#16 [0xE6#8, 0x10#8] [(0x0010, 0x09#8)] with
      p := { noFlags with d := true } })
    (fun t => t.read 0x0010#16 == 0x0A#8 && t.p == { noFlags with d := true } && t.cycles == 5) = true := by decide

theorem test_dec_zp_x_wraps_in_page_zero :
    nextIs (step { start 0x0200#16 [0xD6#8, 0xFF#8] [(0x0001, 0x00#8)] with
      x := 0x02#8 })
    (fun t => t.read 0x0001#16 == 0xFF#8 && t.p == { noFlags with n := true } && t.cycles == 6) = true := by decide

theorem test_inx_wraps :
    nextIs (step { start 0x0200#16 [0xE8#8] [] with
      x := 0xFF#8 })
    (fun t => t.x == 0x00#8 && t.p == { noFlags with z := true } && t.cycles == 2) = true := by decide

theorem test_iny :
    nextIs (step { start 0x0200#16 [0xC8#8] [] with
      y := 0x7F#8 })
    (fun t => t.y == 0x80#8 && t.p == { noFlags with n := true } && t.cycles == 2) = true := by decide

theorem test_dex_to_zero :
    nextIs (step { start 0x0200#16 [0xCA#8] [] with
      x := 0x01#8 })
    (fun t => t.x == 0x00#8 && t.p == { noFlags with z := true } && t.cycles == 2) = true := by decide

theorem test_dey_wraps :
    nextIs (step { start 0x0200#16 [0x88#8] [] with
      y := 0x00#8 })
    (fun t => t.y == 0xFF#8 && t.p == { noFlags with n := true } && t.cycles == 2) = true := by decide

theorem test_and_imm_to_zero :
    nextIs (step { start 0x0200#16 [0x29#8, 0x0A#8] [] with
      a := 0x05#8 })
    (fun t => t.a == 0x00#8 && t.p == { noFlags with z := true } && t.cycles == 2) = true := by decide

theorem test_ora_imm :
    nextIs (step { start 0x0200#16 [0x09#8, 0x80#8] [] with
      a := 0x01#8 })
    (fun t => t.a == 0x81#8 && t.p == { noFlags with n := true } && t.cycles == 2) = true := by decide

theorem test_eor_zp :
    nextIs (step { start 0x0200#16 [0x45#8, 0x10#8] [(0x0010, 0xF0#8)] with
      a := 0x0F#8 })
    (fun t => t.a == 0xFF#8 && t.p == { noFlags with n := true } && t.cycles == 3) = true := by decide

theorem test_bit_zp_n_v_from_memory_z_from_a_and_m :
    nextIs (step { start 0x0200#16 [0x24#8, 0x10#8] [(0x0010, 0xC0#8)] with
      a := 0x01#8 })
    (fun t => t.p == { noFlags with n := true, v := true, z := true } && t.cycles == 3) = true := by decide

theorem test_bit_leaves_c_and_a :
    nextIs (step { start 0x0200#16 [0x24#8, 0x10#8] [(0x0010, 0x00#8)] with
      a := 0xFF#8, p := { noFlags with c := true } })
    (fun t => t.p == { noFlags with z := true, c := true } && t.cycles == 3) = true := by decide

theorem test_asl_a :
    nextIs (step { start 0x0200#16 [0x0A#8] [] with
      a := 0x81#8 })
    (fun t => t.a == 0x02#8 && t.p == { noFlags with c := true } && t.cycles == 2) = true := by decide

theorem test_lsr_abs_clears_n :
    nextIs (step { start 0x0200#16 [0x4E#8, 0x00#8, 0x30#8] [(0x3000, 0xFF#8)] with
      p := { noFlags with n := true } })
    (fun t => t.read 0x3000#16 == 0x7F#8 && t.p == { noFlags with c := true } && t.cycles == 6) = true := by decide

theorem test_rol_a_with_carry_in :
    nextIs (step { start 0x0200#16 [0x2A#8] [] with
      a := 0x80#8, p := { noFlags with c := true } })
    (fun t => t.a == 0x01#8 && t.p == { noFlags with c := true } && t.cycles == 2) = true := by decide

theorem test_ror_a_with_carry_in :
    nextIs (step { start 0x0200#16 [0x6A#8] [] with
      a := 0x00#8, p := { noFlags with c := true } })
    (fun t => t.a == 0x80#8 && t.p == { noFlags with n := true } && t.cycles == 2) = true := by decide

theorem test_ror_abs_x_crossing_fixed_cost :
    nextIs (step { start 0x0200#16 [0x7E#8, 0xFF#8, 0x20#8] [(0x2100, 0x02#8)] with
      x := 0x01#8, p := { noFlags with c := true } })
    (fun t => t.read 0x2100#16 == 0x81#8 && t.p == { noFlags with n := true } && t.cycles == 7) = true := by decide

theorem test_lda_imm_negative :
    nextIs (step (start 0x0200#16 [0xA9#8, 0x80#8] []))
    (fun t => t.a == 0x80#8 && t.p == { noFlags with n := true } && t.cycles == 2) = true := by decide

theorem test_ldx_abs_y_crossing :
    nextIs (step { start 0x0200#16 [0xBE#8, 0xFF#8, 0x20#8] [(0x2100, 0x01#8)] with
      y := 0x01#8 })
    (fun t => t.x == 0x01#8 && t.p == noFlags && t.cycles == 5) = true := by decide

theorem test_ldy_zp_x :
    nextIs (step { start 0x0200#16 [0xB4#8, 0x10#8] [(0x0011, 0xFF#8)] with
      x := 0x01#8 })
    (fun t => t.y == 0xFF#8 && t.p == { noFlags with n := true } && t.cycles == 4) = true := by decide

theorem test_sta_zp_x :
    nextIs (step { start 0x0200#16 [0x81#8, 0x10#8] [(0x0012, 0x00#8), (0x0013, 0x40#8)] with
      a := 0x5A#8, x := 0x02#8 })
    (fun t => t.read 0x4000#16 == 0x5A#8 && t.p == noFlags && t.cycles == 6) = true := by decide

theorem test_stx_zp_y :
    nextIs (step { start 0x0200#16 [0x96#8, 0xFF#8] [] with
      x := 0x42#8, y := 0x02#8 })
    (fun t => t.read 0x0001#16 == 0x42#8 && t.p == noFlags && t.cycles == 4) = true := by decide

theorem test_sty_abs :
    nextIs (step { start 0x0200#16 [0x8C#8, 0x00#8, 0x30#8] [] with
      y := 0x99#8 })
    (fun t => t.read 0x3000#16 == 0x99#8 && t.p == noFlags && t.cycles == 4) = true := by decide

theorem test_tax :
    nextIs (step { start 0x0200#16 [0xAA#8] [] with
      a := 0x80#8 })
    (fun t => t.x == 0x80#8 && t.p == { noFlags with n := true } && t.cycles == 2) = true := by decide

theorem test_tay_zero :
    nextIs (step { start 0x0200#16 [0xA8#8] [] with
      a := 0x00#8, y := 0x12#8 })
    (fun t => t.y == 0x00#8 && t.p == { noFlags with z := true } && t.cycles == 2) = true := by decide

theorem test_txa :
    nextIs (step { start 0x0200#16 [0x8A#8] [] with
      x := 0x01#8 })
    (fun t => t.a == 0x01#8 && t.p == noFlags && t.cycles == 2) = true := by decide

theorem test_tya :
    nextIs (step { start 0x0200#16 [0x98#8] [] with
      y := 0xFF#8 })
    (fun t => t.a == 0xFF#8 && t.p == { noFlags with n := true } && t.cycles == 2) = true := by decide

theorem test_tsx :
    nextIs (step { start 0x0200#16 [0xBA#8] [] with
      sp := 0x00#8 })
    (fun t => t.p == { noFlags with z := true } && t.cycles == 2) = true := by decide

theorem test_txs_sets_no_flags :
    nextIs (step { start 0x0200#16 [0x9A#8] [] with
      x := 0x00#8 })
    (fun t => t.sp == 0x00#8 && t.p == noFlags && t.cycles == 2) = true := by decide

theorem test_cmp_imm_unsigned_not_signed :
    nextIs (step { start 0x0200#16 [0xC9#8, 0x01#8] [] with
      a := 0x80#8 })
    (fun t => t.p == { noFlags with c := true } && t.cycles == 2) = true := by decide

theorem test_cmp_leaves_v :
    nextIs (step { start 0x0200#16 [0xC9#8, 0x00#8] [] with
      a := 0x00#8, p := { noFlags with v := true } })
    (fun t => t.p == { noFlags with v := true, z := true, c := true } && t.cycles == 2) = true := by decide

theorem test_cpx_imm :
    nextIs (step { start 0x0200#16 [0xE0#8, 0xFF#8] [] with
      x := 0x00#8 })
    (fun t => t.p == noFlags && t.cycles == 2) = true := by decide

theorem test_cpy_zp :
    nextIs (step { start 0x0200#16 [0xC4#8, 0x10#8] [(0x0010, 0x10#8)] with
      y := 0x10#8 })
    (fun t => t.p == { noFlags with z := true, c := true } && t.cycles == 3) = true := by decide

theorem test_bpl_taken :
    nextIs (step (start 0x0200#16 [0x10#8, 0x10#8] []))
    (fun t => t.pc == 0x0212#16 && t.p == noFlags && t.cycles == 3) = true := by decide

theorem test_bmi_taken_backward :
    nextIs (step { start 0x0200#16 [0x30#8, 0xFC#8] [] with
      p := { noFlags with n := true } })
    (fun t => t.pc == 0x01FE#16 && t.p == { noFlags with n := true } && t.cycles == 4) = true := by decide

theorem test_bvc_taken_crossing :
    nextIs (step (start 0x02F0#16 [0x50#8, 0x7F#8] []))
    (fun t => t.pc == 0x0371#16 && t.p == noFlags && t.cycles == 4) = true := by decide

theorem test_bvs_not_taken :
    nextIs (step (start 0x0200#16 [0x70#8, 0x10#8] []))
    (fun t => t.p == noFlags && t.cycles == 2) = true := by decide

theorem test_bcc_to_itself :
    nextIs (step (start 0x0200#16 [0x90#8, 0xFE#8] []))
    (fun t => t.pc == 0x0200#16 && t.p == noFlags && t.cycles == 3) = true := by decide

theorem test_bcs_taken_wraps_at_0xffff :
    nextIs (step { start 0xFFF0#16 [0xB0#8, 0x7F#8] [] with
      p := { noFlags with c := true } })
    (fun t => t.pc == 0x0071#16 && t.p == { noFlags with c := true } && t.cycles == 4) = true := by decide

theorem test_bne_rel_0 :
    nextIs (step (start 0x0200#16 [0xD0#8, 0x00#8] []))
    (fun t => t.p == noFlags && t.cycles == 3) = true := by decide

theorem test_beq_taken_128 :
    nextIs (step { start 0x0300#16 [0xF0#8, 0x80#8] [] with
      p := { noFlags with z := true } })
    (fun t => t.pc == 0x0282#16 && t.p == { noFlags with z := true } && t.cycles == 4) = true := by decide

theorem test_pha_at_s_0_wraps :
    nextIs (step { start 0x0200#16 [0x48#8] [] with
      a := 0x34#8, sp := 0x00#8 })
    (fun t => t.sp == 0xFF#8 && t.read 0x0100#16 == 0x34#8 && t.p == noFlags && t.cycles == 3) = true := by decide

theorem test_php_pushes_bits_5_and_4_as_1 :
    nextIs (step { start 0x0200#16 [0x08#8] [] with
      sp := 0xFF#8, p := { noFlags with n := true, i := true, c := true } })
    (fun t => t.sp == 0xFE#8 && t.read 0x01FF#16 == 0xB5#8 && t.p == { noFlags with n := true, i := true, c := true } &&
      t.cycles == 3) = true := by decide

theorem test_pla_at_s_0xff_wraps :
    nextIs (step { start 0x0200#16 [0x68#8] [(0x0100, 0x00#8)] with
      sp := 0xFF#8 })
    (fun t => t.sp == 0x00#8 && t.p == { noFlags with z := true } && t.cycles == 4) = true := by decide

theorem test_plp_ignores_bits_5_and_4 :
    nextIs (step { start 0x0200#16 [0x28#8] [(0x01FF, 0x30#8)] with
      sp := 0xFE#8 })
    (fun t => t.sp == 0xFF#8 && t.p == noFlags && t.cycles == 4) = true := by decide

theorem test_jmp_abs :
    nextIs (step (start 0x0200#16 [0x4C#8, 0x00#8, 0x30#8] []))
    (fun t => t.pc == 0x3000#16 && t.p == noFlags && t.cycles == 3) = true := by decide

theorem test_jmp_10ff_page_wrap_bug :
    nextIs (step (start 0x0200#16 [0x6C#8, 0xFF#8, 0x10#8] [(0x10FF, 0x34#8), (0x1000, 0x12#8), (0x1100, 0x56#8)]))
    (fun t => t.pc == 0x1234#16 && t.p == noFlags && t.cycles == 5) = true := by decide

theorem test_jsr :
    nextIs (step { start 0x030D#16 [0x20#8, 0x20#8, 0x03#8] [] with
      sp := 0xFF#8 })
    (fun t => t.sp == 0xFD#8 && t.read 0x01FE#16 == 0x0F#8 && t.read 0x01FF#16 == 0x03#8 && t.pc == 0x0320#16 &&
      t.p == noFlags && t.cycles == 6) = true := by decide

theorem test_rts_from_0xffff :
    nextIs (step { start 0x0200#16 [0x60#8] [(0x01FE, 0xFF#8), (0x01FF, 0xFF#8)] with
      sp := 0xFD#8 })
    (fun t => t.sp == 0xFF#8 && t.pc == 0x0000#16 && t.p == noFlags && t.cycles == 6) = true := by decide

theorem test_clc :
    nextIs (step { start 0x0200#16 [0x18#8] [] with
      p := { noFlags with c := true } })
    (fun t => t.p == noFlags && t.cycles == 2) = true := by decide

theorem test_sec :
    nextIs (step (start 0x0200#16 [0x38#8] []))
    (fun t => t.p == { noFlags with c := true } && t.cycles == 2) = true := by decide

theorem test_cli :
    nextIs (step { start 0x0200#16 [0x58#8] [] with
      p := { noFlags with i := true }, pollI := true })
    (fun t => t.p == noFlags && t.cycles == 2) = true := by decide

theorem test_sei :
    nextIs (step (start 0x0200#16 [0x78#8] []))
    (fun t => t.p == { noFlags with i := true } && t.cycles == 2) = true := by decide

theorem test_cld :
    nextIs (step { start 0x0200#16 [0xD8#8] [] with
      p := { noFlags with d := true } })
    (fun t => t.p == noFlags && t.cycles == 2) = true := by decide

theorem test_sed :
    nextIs (step (start 0x0200#16 [0xF8#8] []))
    (fun t => t.p == { noFlags with d := true } && t.cycles == 2) = true := by decide

theorem test_clv :
    nextIs (step { start 0x0200#16 [0xB8#8] [] with
      p := { noFlags with v := true } })
    (fun t => t.p == noFlags && t.cycles == 2) = true := by decide

theorem test_nop :
    nextIs (step (start 0x0200#16 [0xEA#8] []))
    (fun t => t.p == noFlags && t.cycles == 2) = true := by decide

theorem test_brk_ignores_i :
    nextIs (step { start 0x0200#16 [0x00#8] [(0xFFFE, 0x00#8), (0xFFFF, 0x04#8)] with
      sp := 0xFF#8, p := { noFlags with i := true }, pollI := true })
    (fun t => t.sp == 0xFC#8 && t.read 0x01FD#16 == 0x34#8 && t.read 0x01FE#16 == 0x02#8 && t.read 0x01FF#16 == 0x02#8 &&
      t.pc == 0x0400#16 && t.p == { noFlags with i := true } && t.cycles == 7) = true := by decide

theorem test_brk_hijacked_by_nmi :
    nextIs (step { start 0x0200#16 [0x00#8] [(0xFFFA, 0x00#8), (0xFFFB, 0x05#8), (0xFFFE, 0x00#8), (0xFFFF, 0x04#8)] with
      sp := 0xFF#8, nmiEarly := true })
    (fun t => t.sp == 0xFC#8 && t.read 0x01FD#16 == 0x30#8 && t.read 0x01FE#16 == 0x02#8 && t.read 0x01FF#16 == 0x02#8 &&
      t.pc == 0x0500#16 && t.p == { noFlags with i := true } && t.cycles == 7) = true := by decide

theorem test_rti_restores_i_at_once :
    nextIs (step { start 0x0200#16 [0x40#8] [(0x01FD, 0xC3#8), (0x01FE, 0x00#8), (0x01FF, 0x30#8)] with
      sp := 0xFC#8, p := { noFlags with i := true }, pollI := true })
    (fun t => t.sp == 0xFF#8 && t.pc == 0x3000#16 && t.p == { noFlags with n := true, v := true, z := true, c := true } &&
      t.cycles == 6) = true := by decide

theorem test_irq_masked_polli_1 :
    nextIs (step { start 0x0200#16 [0xEA#8] [(0xFFFE, 0x00#8), (0xFFFF, 0x05#8)] with
      sp := 0xFF#8, p := { noFlags with i := true }, pollI := true, irq := true })
    (fun t => t.p == { noFlags with i := true } && t.cycles == 2) = true := by decide

theorem test_irq_after_sei_polli_0_i_1 :
    nextIs (step { start 0x0200#16 [0xEA#8] [(0xFFFE, 0x00#8), (0xFFFF, 0x05#8)] with
      sp := 0xFF#8, p := { noFlags with i := true }, irq := true })
    (fun t => t.sp == 0xFC#8 && t.read 0x01FD#16 == 0x24#8 && t.read 0x01FF#16 == 0x02#8 && t.pc == 0x0500#16 &&
      t.p == { noFlags with i := true } && t.cycles == 7) = true := by decide

theorem test_nmi_taken_with_i_1 :
    nextIs (step { start 0x0200#16 [0xEA#8] [(0xFFFA, 0x00#8), (0xFFFB, 0x06#8)] with
      sp := 0xFF#8, p := { noFlags with i := true }, pollI := true, nmiPending := true })
    (fun t => t.sp == 0xFC#8 && t.read 0x01FD#16 == 0x24#8 && t.read 0x01FF#16 == 0x02#8 && t.pc == 0x0600#16 &&
      t.p == { noFlags with i := true } && t.cycles == 7) = true := by decide

theorem test_irq_hijacked_by_nmi :
    nextIs (step { start 0x0200#16 [0xEA#8] [(0xFFFA, 0x00#8), (0xFFFB, 0x06#8), (0xFFFE, 0x00#8), (0xFFFF, 0x05#8)] with
      sp := 0xFF#8, irq := true, nmiEarly := true })
    (fun t => t.sp == 0xFC#8 && t.read 0x01FD#16 == 0x20#8 && t.read 0x01FF#16 == 0x02#8 && t.pc == 0x0600#16 &&
      t.p == { noFlags with i := true } && t.cycles == 7) = true := by decide

theorem test_undefined_opcode_0x02 :
    nextIs (step { start 0x0200#16 [0x02#8] [] with
      a := 0x11#8 })
    (fun t => t.pc == 0x0200#16 && t.p == noFlags && t.fault == some (.decodeFault 0x0200#16 0x02#8) && t.run == .halted &&
      t.cycles == 0) = true := by decide

theorem test_nmi_request_while_halted :
    nextIs (step { start 0x0200#16 [0xEA#8] [] with
      nmiEarly := true, run := .halted })
    (fun t => t.pc == 0x0200#16 && t.p == noFlags && t.nmiPending && t.cycles == 0) = true := by decide

/-! ## Well-formedness: for each mnemonic family, forms that R204 to R389 give no encoding are refused -/

theorem test_wellformed_refuses_immediate_stores :
    wellFormedForm .sta (some (.imm 0x00#8)) = false ∧ wellFormedForm .stx (some (.imm 0x00#8)) = false ∧
    wellFormedForm .sty (some (.imm 0x00#8)) = false := by decide

theorem test_wellformed_refuses_modes_outside_the_lists :
    wellFormedForm .bit (some (.imm 0x00#8)) = false ∧ wellFormedForm .bit (some (.loc (.mem (.zpX 0x00#8)))) = false ∧
    wellFormedForm .stx (some (.loc (.mem (.absY 0x0000#16)))) = false ∧
    wellFormedForm .sty (some (.loc (.mem (.absX 0x0000#16)))) = false ∧
    wellFormedForm .ldx (some (.loc (.mem (.zpX 0x00#8)))) = false ∧
    wellFormedForm .ldy (some (.loc (.mem (.zpY 0x00#8)))) = false ∧
    wellFormedForm .lda (some (.loc (.mem (.zpY 0x00#8)))) = false ∧
    wellFormedForm .adc (some (.loc .acc)) = false ∧
    wellFormedForm .inc (some (.loc .acc)) = false ∧
    wellFormedForm .asl (some (.loc (.mem (.absY 0x0000#16)))) = false ∧
    wellFormedForm .cpx (some (.loc (.mem (.zpX 0x00#8)))) = false ∧
    wellFormedForm .jmp (some (.loc (.mem (.indX 0x00#8)))) = false ∧
    wellFormedForm .jsr (some (.loc (.mem (.ind 0x0000#16)))) = false ∧
    wellFormedForm .bne (some (.loc (.mem (.abs 0x0000#16)))) = false := by decide

theorem test_wellformed_refuses_missing_and_extra_operands :
    wellFormedForm .lda none = false ∧ wellFormedForm .ror none = false ∧ wellFormedForm .bne none = false ∧
    wellFormedForm .tax (some (.imm 0x00#8)) = false ∧ wellFormedForm .brk (some (.imm 0x00#8)) = false ∧
    wellFormedForm .nop (some (.loc (.mem (.zp 0x00#8)))) = false := by decide

/-! ## Rejection by name, and the words of the opcode table -/

theorem test_undefined_opcodes_are_rejected_by_name :
    decode [0x02#8, 0x12#8] = .undefinedOpcode 0x02#8 ∧ decode [0x89#8] = .undefinedOpcode 0x89#8 ∧
    decode [0xEB#8] = .undefinedOpcode 0xEB#8 ∧ decode [0xFF#8, 0x00#8, 0x00#8] = .undefinedOpcode 0xFF#8 ∧
    undefinedOpcodes.length = 105 := by decide

theorem test_short_byte_strings_are_rejected :
    decode [] = .truncated ∧ decode [0xA9#8] = .truncated ∧ decode [0x4C#8, 0x00#8] = .truncated := by decide

theorem test_table_words :
    decodeTableWord 8 0xEA = some .nop ∧ decodeTableWord 16 0x80A9 = some (.ldaImm 0x80#8) ∧
    decodeTableWord 24 0x10FF6C = some (.jmpInd 0x10FF#16) ∧ decodeTableWord 8 0xA9 = some (.ldaImm 0x00#8) ∧
    decodeTableWord 8 0x02 = none := by decide

theorem test_fetch_word_runs_first_after_reset :
    nextIs (step (State.reset.withFetchWord 16 0x80A9)) (fun t => t.a == 0x80#8 && t.p.n && t.pc == 0x0002#16) = true ∧
    nextIs (step (State.reset.withFetchWord 24 0x12344C)) (fun t => t.pc == 0x1234#16) = true := by decide

/-! ## Reset, and the host's calls (spec/95, W4 and the reset and halt tables) -/

/-- A draw in which no value is 0. -/
def allOnes : ResetDraw := ⟨0xFF#8, 0xFF#8, 0xFF#8, true, true, true, true, true⟩

/-- The first row of the reset table. -/
def faultedAndHalted : State :=
  { start 0x1234#16 [0x02#8] [(0xFFFC, 0x00#8), (0xFFFD, 0x80#8)] with
    run := .halted, fault := some (.decodeFault 0x1234#16 0x02#8), nmiPending := true, host := [.reset allOnes] }

theorem test_reset_reads_the_vector_and_clears_the_latches :
    nextIs (step faultedAndHalted) (fun t => t.pc == 0x8000#16 && t.sp == 0xFD#8 && t.p.i && !t.p.b && t.run == .running &&
      t.fault == none && !t.nmiPending && t.pollI && t.mem == faultedAndHalted.mem) = true := by decide

theorem test_nmi_request_is_latched_across_a_halt :
    nextIs (core.run 4 { start 0x0200#16 [0xEA#8] [(0xFFFB, 0x06#8)] with
      host := [.haltResume, .step true, .haltResume, .step false] })
    (fun t => t.pc == 0x0600#16 && t.cycles == 7 && !t.nmiPending) = true := by decide

theorem test_resume_after_a_fault_faults_again :
    nextIs (core.run 3 { start 0x0200#16 [0x02#8] [] with host := [.step false, .haltResume, .step false] })
    (fun t => t.pc == 0x0200#16 && t.run == .halted && t.fault == some (.decodeFault 0x0200#16 0x02#8)) = true := by decide

/-- A program comes to run from State.reset: the host loads it with its vector, resets the core and steps (R418, R520). -/
theorem test_loaded_program_runs_from_reset :
    nextIs (core.run 4 { State.reset with
      host := [.load 0xFCE2#16 [0xA2#8, 0xFF#8], .load 0xFFFC#16 [0xE2#8, 0xFC#8], .reset allOnes, .step false] })
    (fun t => t.x == 0xFF#8 && t.pc == 0xFCE4#16 && t.p.i) = true := by decide

/-! ## Witnesses: for each statement with hypotheses, states and operands that meet them -/

/-- A check that passes names the next state. -/
theorem next_of_nextIs {r : Result} {check : State → Bool} (h : nextIs r check = true) : ∃ t, r = .next t ∧ check t = true := by
  cases r with
  | next t => exact ⟨t, rfl, h⟩
  | fault _ => cases h
  | refused _ => cases h

/-- A boundary on a NOP, with a vector and stack bytes in memory. -/
def atNop : State := start 0x0200#16 [0xEA#8] [(0x01FF, 0x12#8), (0xFFFF, 0x05#8)]

/-- A boundary in decimal mode. -/
def atDecimal : State := { atNop with a := 0x99#8, p := { noFlags with d := true, c := true } }

theorem witness_DecodeOfEncodeIsTheInstruction : (Instr.jmpInd 0x10FF#16).wellFormed = true := by decide

theorem witness_DecodedBytesBeginWithTheEncoding : decode [0x6C#8, 0xFF#8, 0x10#8, 0x00#8] = .instr (.jmpInd 0x10FF#16) := by
  decide

/-- The pointers of (zp,X) and (zp),Y at the end of page zero. -/
theorem witness_EffectiveAddressesOfTheModes :
    let s := start 0x0200#16 [0xA1#8, 0xFE#8] [(0x00FF, 0x34#8), (0x0000, 0x12#8)]
    s.mem.byteAt ((0xFF + s.x.toNat) % 256) = 0x34#8 ∧ s.mem.byteAt ((0xFF + s.x.toNat + 1) % 256) = 0x12#8 ∧
    s.mem.byteAt 0xFF = 0x34#8 ∧ s.mem.byteAt ((0xFF + 1) % 256) = 0x12#8 := by decide

/-- The premise of the statements over canonical memories alone: StoredByteIsLoadedBack, PullAfterPushReturnsTheByte,
JsrPushesItsLastByteAddress, RtsAfterJsrResumesAfterTheCall, PushesOfAAndStatus, BrkEntersThroughItsVector and
RtiAfterBrkResumesPastThePadding. -/
theorem witness_canonical_memory : atNop.mem.wf = true ∧ State.reset.mem.wf = true := by decide

theorem witness_CanonicalMemoriesThatReadAlikeAreEqual :
    let m : Memory := [(0x0010, 0x01#8)]
    let n : Memory := Memory.store [(0x0010, 0x02#8)] 0x0010 0x01#8
    m.wf = true ∧ n.wf = true ∧ ∀ a, a < 65536 → m.byteAt a = n.byteAt a := by
  refine ⟨by decide, by decide, fun a _ => ?_⟩
  rw [show Memory.store [(0x0010, 0x02#8)] 0x0010 0x01#8 = [(0x0010, 0x01#8)] by decide]

theorem witness_AdcAddsWithCarry :
    (Instr.adcImm 0x01#8).op = .adc ∧ atNop.p.d = false ∧ (atDecimal.p.d = true ∧ atDecimal.decimalMode = .nmosBcd) ∧
    DecimalMode.binaryOnly = { atDecimal with decimalMode := .binaryOnly }.decimalMode := by decide

theorem witness_SbcSubtractsWithBorrow :
    (Instr.sbcImm 0x01#8).op = .sbc ∧ atNop.p.d = false ∧ (atDecimal.p.d = true ∧ atDecimal.decimalMode = .nmosBcd) ∧
    DecimalMode.binaryOnly = { atDecimal with decimalMode := .binaryOnly }.decimalMode := by decide

theorem witness_DecimalAdcIsTheTwoDigitSum :
    (Instr.adcImm 0x99#8).op = .adc ∧ (Instr.adcImm 0x99#8).operand = some (.imm 0x99#8) ∧ atDecimal.p.d = true ∧
    atDecimal.decimalMode = .nmosBcd ∧ IsBcd atDecimal.a ∧ IsBcd ((Operand.imm 0x99#8).value atDecimal) := by
  unfold IsBcd; decide

theorem witness_DecimalSbcIsTheTwoDigitDifference :
    (Instr.sbcImm 0x99#8).op = .sbc ∧ (Instr.sbcImm 0x99#8).operand = some (.imm 0x99#8) ∧ atDecimal.p.d = true ∧
    atDecimal.decimalMode = .nmosBcd ∧ IsBcd atDecimal.a ∧ IsBcd ((Operand.imm 0x99#8).value atDecimal) := by
  unfold IsBcd; decide

theorem witness_DecimalModeMattersToDecimalAddsAlone :
    ((Instr.inx.op ≠ .adc ∧ Instr.inx.op ≠ .sbc) ∧ ∃ t, exec .inx atDecimal = .next t ∧ true = true) ∧
    (atNop.p.d = false ∧ ∃ t, exec (.adcImm 0x01#8) atNop = .next t ∧ true = true) :=
  ⟨⟨by decide, next_of_nextIs (check := fun _ => true) (by decide)⟩,
    by decide, next_of_nextIs (check := fun _ => true) (by decide)⟩

/-- The mnemonics of the statements made mnemonic by mnemonic: IncDecChangeOneMemoryByte, LogicalOperationsWriteA,
BitCopiesOperandBits, LoadsWriteARegisterAndNZ, StoresWriteOneByteAndNoFlag and ComparesSetFlagsOnly. -/
theorem witness_mnemonics :
    (Instr.incAbsX 0xFFFF#16).op = .inc ∧ (Instr.decZpX 0xFF#8).op = .dec ∧ (Instr.andImm 0x00#8).op = .and ∧
    (Instr.oraIndY 0xFF#8).op = .ora ∧ (Instr.eorIndX 0xFF#8).op = .eor ∧ (Instr.bitAbs 0xFFFF#16).op = .bit ∧
    (Instr.ldaImm 0x00#8).op = .lda ∧ (Instr.ldxZpY 0xFF#8).op = .ldx ∧ (Instr.ldyAbsX 0xFFFF#16).op = .ldy ∧
    (Instr.ldaAbsY 0xFFFF#16).mode = .absY ∧ (Instr.ldaIndY 0xFF#8).mode = .indY ∧ (Instr.staIndY 0xFF#8).op = .sta ∧
    (Instr.stxZp 0x00#8).op = .stx ∧ (Instr.styZpX 0xFF#8).op = .sty ∧ (Instr.cmpImm 0xFF#8).op = .cmp ∧
    (Instr.cpxImm 0x00#8).op = .cpx ∧ (Instr.cpyZp 0xFF#8).op = .cpy ∧ atNop.mem.wf = true := by decide

theorem witness_ShiftsOfAMemoryByte :
    atNop.mem.wf = true ∧
    ((Instr.aslAbsX 0xFFFF#16).operand = some (.loc (.mem (.absX 0xFFFF#16))) ∧ (Instr.aslAbsX 0xFFFF#16).op = .asl) ∧
    ((Instr.lsrZp 0x00#8).operand = some (.loc (.mem (.zp 0x00#8))) ∧ (Instr.lsrZp 0x00#8).op = .lsr) ∧
    ((Instr.rolZpX 0xFF#8).operand = some (.loc (.mem (.zpX 0xFF#8))) ∧ (Instr.rolZpX 0xFF#8).op = .rol) ∧
    ((Instr.rorAbs 0x01FF#16).operand = some (.loc (.mem (.abs 0x01FF#16))) ∧ (Instr.rorAbs 0x01FF#16).op = .ror) := by decide

theorem witness_NineRotatesRestoreTheOperandAndCarry :
    atNop.mem.wf = true ∧ Instr.rolA.op = .rol ∧ (Instr.rolAbsX 0xFFFF#16).op = .rol ∧ Instr.rorA.op = .ror ∧
    (Instr.rorZpX 0xFF#8).op = .ror := by decide

theorem witness_RegistersChangeOnlyByTheirWriters :
    (∃ t, exec (.ldaImm 0x01#8) atNop = .next t ∧ (t.a != atNop.a) = true) ∧
    (∃ t, exec .dex atNop = .next t ∧ (t.x != atNop.x) = true) ∧ (∃ t, exec .iny atNop = .next t ∧ (t.y != atNop.y) = true) ∧
    (∃ t, exec .txs atNop = .next t ∧ (t.sp != atNop.sp) = true) ∧
    (∃ t, exec (.bne 0x80#8) atNop = .next t ∧ (t.pc != atNop.pc) = true) :=
  ⟨next_of_nextIs (by decide), next_of_nextIs (by decide), next_of_nextIs (by decide), next_of_nextIs (by decide),
    next_of_nextIs (by decide)⟩

theorem witness_FlagsChangeOnlyByTheirWriters :
    (∃ t, exec .sec atNop = .next t ∧ (t.p.c != atNop.p.c) = true) ∧
    (∃ t, exec .brk atNop = .next t ∧ (t.p.i != atNop.p.i) = true) ∧
    (∃ t, exec .sed atNop = .next t ∧ (t.p.d != atNop.p.d) = true) ∧
    (∃ t, exec (.bitAbs 0x0200#16) atNop = .next t ∧ (t.p.v != atNop.p.v) = true) ∧
    (∃ t, exec .tsx atNop = .next t ∧ (t.p.n != atNop.p.n) = true) ∧
    (∃ t, exec (.cmpImm 0x00#8) atNop = .next t ∧ (t.p.z != atNop.p.z) = true) :=
  ⟨next_of_nextIs (by decide), next_of_nextIs (by decide), next_of_nextIs (by decide), next_of_nextIs (by decide),
    next_of_nextIs (by decide), next_of_nextIs (by decide)⟩

/-- A form that stores, one that stores three bytes, and one that stores nothing; it serves HostAndLatchStateIsOutOfReach
too. -/
theorem witness_MemoryChangesOnlyWhereStored :
    atNop.mem.wf = true ∧
    (0x0010#16 ∉ storesTo (.staZp 0x11#8) atNop ∧
      ∃ t, exec (.staZp 0x11#8) { atNop with a := 0x01#8 } = .next t ∧ (t.read 0x0011#16 == 0x01#8) = true) ∧
    (0x01FA#16 ∉ storesTo .brk atNop ∧ ∃ t, exec .brk atNop = .next t ∧ (t.read 0x01FD#16 == 0x02#8) = true) ∧
    (0x01FD#16 ∉ storesTo .plp atNop ∧ ∃ t, exec .plp atNop = .next t ∧ (t.sp == 0xFE#8) = true) :=
  ⟨by decide, ⟨by decide, next_of_nextIs (by decide)⟩, ⟨by decide, next_of_nextIs (by decide)⟩,
    ⟨by decide, next_of_nextIs (by decide)⟩⟩

/-- An NMI request that arrives with the instruction, an IRQ that is masked, and an effect that answers a next state. -/
theorem witness_StepRunsTheFetchedInstruction :
    let s := { atNop with nmiEarly := true, irq := true, pollI := true }
    Executes s ∧ fetched s = .instr .nop ∧ ∃ t, exec .nop { s with pc := s.pc + 1#16 } = .next t ∧ (t.pc == 0x0201#16) = true :=
  ⟨⟨rfl, rfl, rfl, .inr rfl⟩, by decide, next_of_nextIs (by decide)⟩

theorem witness_EveryStepKeepsTheInvariant :
    let s := { atNop with fault := some (.decodeFault 0x1234#16 0x02#8) }
    Inv s ∧ ∃ t, step s = .next t ∧ (t.pc == 0x0201#16) = true :=
  ⟨⟨by decide, by decide, fun addr op h => by cases h; decide⟩, next_of_nextIs (by decide)⟩

theorem witness_UndefinedOpcodeRaisesTheDecodeFault :
    let s := { start 0xFFFF#16 [0x02#8] [] with nmiEarly := true }
    Executes s ∧ s.read s.pc ∈ undefinedOpcodes :=
  ⟨⟨rfl, rfl, rfl, .inl rfl⟩, by decide⟩

theorem witness_ResumeAfterAFaultFaultsAgain :
    let s := start 0xFFFF#16 [0xFF#8] []
    Executes s ∧ s.nmiEarly = false ∧ s.read s.pc ∈ undefinedOpcodes :=
  ⟨⟨rfl, rfl, rfl, .inl rfl⟩, rfl, by decide⟩

theorem witness_HaltedStepOnlyLatchesNmi :
    let s := { atNop with run := .halted, nmiEarly := true }
    s.host = [] ∧ s.run = .halted := by decide

theorem witness_RunStateChangesOnlyByHostOrFault :
    (∃ t, step { start 0x0200#16 [0x02#8] [] with host := [.step false] } = .next t ∧ (t.run == .halted) = true) ∧
    (∃ t, step { atNop with host := [.haltResume] } = .next t ∧ (t.run == .halted) = true) ∧
    (∃ t, step { atNop with run := .halted, host := [.haltResume] } = .next t ∧ (t.run == .running) = true) ∧
    (∃ t, step faultedAndHalted = .next t ∧ (t.run == .running) = true) :=
  ⟨next_of_nextIs (by decide), next_of_nextIs (by decide), next_of_nextIs (by decide), next_of_nextIs (by decide)⟩

theorem witness_OnlyResetClearsTheFaultLatch :
    faultedAndHalted.fault ≠ none ∧ ∃ t, step faultedAndHalted = .next t ∧ (t.fault == none) = true :=
  ⟨by decide, next_of_nextIs (by decide)⟩

theorem witness_NmiEntryStep :
    let s := { atNop with nmiPending := true, irq := true, pollI := true, nmiEarly := true }
    s.mem.wf = true ∧ s.host = [] ∧ s.run = .running ∧ s.nmiPending = true := by decide

theorem witness_IrqEntryStep :
    let s := { atNop with irq := true, nmiEarly := true }
    s.mem.wf = true ∧ s.host = [] ∧ s.run = .running ∧ s.nmiPending = false ∧ s.irq = true ∧ s.pollI = false := by decide

/-- CLI at the end of the address space; the next instruction leaves I at 0 (INC), or sets it (SEI, and PLP of a byte with
I = 1). -/
theorem witness_IrqIsTakenOneInstructionAfterCli :
    let at' (next : List Byte) : State :=
      { start 0xFFFF#16 [0x58#8] [] with irq := true, pollI := true, p := { noFlags with i := true } }.load 0x0000#16 next
    let afterCli (s : State) : State := { s with pc := s.pc + 1#16, p := { s.p with i := false }, cycles := 2 }
    let premises (i : Instr) (s : State) (uI : Bool) : Prop :=
      s.mem.wf = true ∧ Executes s ∧ s.irq = true ∧ s.nmiEarly = false ∧ s.p.i = true ∧ s.read s.pc = 0x58#8 ∧
      fetched (afterCli s) = .instr i ∧
      ∃ u, exec i { afterCli s with pc := (afterCli s).pc + BitVec.ofNat 16 i.length } = .next u ∧ (u.p.i == uI) = true
    premises (.incZp 0x10#8) (at' [0xE6#8, 0x10#8]) false ∧ premises .sei (at' [0x78#8]) true ∧
    premises .plp ((at' [0x28#8]).write 0x01FE#16 0x04#8) true :=
  ⟨⟨by decide, ⟨rfl, rfl, rfl, .inr rfl⟩, rfl, rfl, rfl, by decide, by decide, next_of_nextIs (by decide)⟩,
    ⟨by decide, ⟨rfl, rfl, rfl, .inr rfl⟩, rfl, rfl, rfl, by decide, by decide, next_of_nextIs (by decide)⟩,
    ⟨by decide, ⟨rfl, rfl, rfl, .inr rfl⟩, rfl, rfl, rfl, by decide, by decide, next_of_nextIs (by decide)⟩⟩

theorem witness_IrqIsStillTakenRightAfterSei :
    let s := { start 0xFFFF#16 [0x78#8] [] with host := [.step false, .driveIrq true, .step false] }
    s.mem.wf = true ∧ s.run = .running ∧ s.nmiPending = false ∧ s.irq = false ∧ s.p.i = false ∧
    s.host = [.step false, .driveIrq true, .step false] ∧ s.read s.pc = 0x78#8 := by decide

theorem witness_HostResetSequence : faultedAndHalted.host = .reset allOnes :: [] := by decide

theorem witness_HostCallsChangeTheirOneThing :
    { atNop with host := [.haltResume] }.host = .haltResume :: [] ∧
    { atNop with host := [.nmiRequest] }.host = .nmiRequest :: [] ∧
    { atNop with host := [.driveIrq true] }.host = .driveIrq true :: [] ∧
    ({ atNop with host := [.load 0xFFFF#16 [0x00#8]] }.host = .load 0xFFFF#16 [0x00#8] :: [] ∧ atNop.mem.wf = true) ∧
    (atNop.run = .running ∧
      { atNop with host := [.haltResume, .step false, .step false, .haltResume] }.host =
        [.haltResume, .step false, .step false, .haltResume]) := by decide

theorem witness_ScheduledStepIsTheStepWithItsInput :
    { atNop with host := [.step true, .reset allOnes] }.host = .step true :: [.reset allOnes] := by decide

/-- A scheduled step with an NMI request latches it, and the schedule goes on (spec/95, "NMI request during an instruction"). -/
theorem test_scheduled_nmi_request_is_latched :
    nextIs (step { atNop with host := [.step true, .haltResume] })
    (fun t => t.pc == 0x0201#16 && t.nmiPending && t.host == [.haltResume]) = true := by decide

/-- One instruction and one cycle count for each clause, with and without a page crossing. -/
theorem witness_CycleCountsByClassAndMode :
    let s := { atNop with x := 0x01#8, y := 0x01#8 }
    ((Instr.adcImm 0x00#8).mode = .imm ∧ (Instr.adcImm 0x00#8).cycles s = 2) ∧
    ((Instr.stxZp 0xFF#8).mode = .zp ∧ (Instr.stxZp 0xFF#8).cycles s = 3) ∧
    ((Instr.ldxZpY 0xFF#8).mode = .zpY ∧ (Instr.ldxZpY 0xFF#8).cycles s = 4) ∧
    ((Instr.staIndX 0xFF#8).mode = .indX ∧ (Instr.staIndX 0xFF#8).cycles s = 6) ∧
    ((Instr.ldaAbsX 0x20FF#16).cycles s = 5 ∧ (Instr.ldaAbsX 0x20FE#16).cycles s = 4) ∧
    ((Instr.cmpIndY 0xFE#8).mode = .indY ∧ (Instr.cmpIndY 0xFE#8).cycles s = 5) ∧
    ((Instr.staAbsX 0x20FF#16).cycles s = 5 ∧ (Instr.staAbsX 0x20FE#16).cycles s = 5) ∧
    ((Instr.staIndY 0xFE#8).mode = .indY ∧ (Instr.staIndY 0xFE#8).cycles s = 6) ∧
    (Instr.aslA.mode = .acc ∧ Instr.aslA.cycles s = 2 ∧ Instr.nop.cycles s = 2) ∧
    ((Instr.incZp 0x00#8).cycles s = 5 ∧ (Instr.rolAbs 0x0000#16).cycles s = 6 ∧ (Instr.decAbsX 0xFFFF#16).cycles s = 7) ∧
    ((Instr.bne 0x80#8).cycles s = 4 ∧ (Instr.bne 0x7F#8).cycles s = 3 ∧ (Instr.beq 0x7F#8).cycles s = 2) ∧
    (Instr.php.cycles s = 3 ∧ Instr.plp.cycles s = 4 ∧ (Instr.jmpInd 0x00FF#16).cycles s = 5 ∧
      (Instr.jmpAbs 0x0000#16).cycles s = 3 ∧ (Instr.jsrAbs 0x0000#16).cycles s = 6 ∧ Instr.rti.cycles s = 6 ∧
      Instr.brk.cycles s = 7) := by decide

end Sys2Proof.Tests
end

section
/-! SUPPORT. What an instruction's effect can change, said once for the 56 mnemonics of `Meaning`: the host's state and the
latches it leaves, memory's form and the stored B it keeps, and which mnemonics write each register and each flag. -/

namespace Sys2Proof.Machine

/-- The meaning that an effect answers is the one of the instruction's mnemonic and operand. -/
theorem Meaning.of_exec {i : Instr} {s t : State} (h : exec i s = .next t) : Meaning s i.op i.operand t := by
  obtain ⟨_, _, u, rfl, rfl, hu, hm⟩ := exec_meaning i s
  rw [h] at hu
  injection hu with htu
  exact htu ▸ hm

/-- From `s` to `t`, the run state, the latches, the host's inputs and schedule, the parameter and the last cycle count stay. -/
structure SameHostState (s t : State) : Prop where
  run : t.run = s.run
  fault : t.fault = s.fault
  nmiPending : t.nmiPending = s.nmiPending
  pollI : t.pollI = s.pollI
  decimalMode : t.decimalMode = s.decimalMode
  irq : t.irq = s.irq
  nmiEarly : t.nmiEarly = s.nmiEarly
  host : t.host = s.host
  cycles : t.cycles = s.cycles

section byteFlags
variable (m : Byte) (p : Flags)
@[simp] theorem aslByte_p : (aslByte m p).2 = setNZ { p with c := m.getLsbD 7 } (aslByte m p).1 := rfl
@[simp] theorem lsrByte_p : (lsrByte m p).2 = setNZ { p with c := m.getLsbD 0 } (lsrByte m p).1 := rfl
@[simp] theorem rolByte_p : (rolByte m p).2 = setNZ { p with c := m.getLsbD 7 } (rolByte m p).1 := rfl
@[simp] theorem rorByte_p : (rorByte m p).2 = setNZ { p with c := m.getLsbD 0 } (rorByte m p).1 := rfl
@[simp] theorem incByte_p : (incByte m p).2 = setNZ p (m + 1) := rfl
@[simp] theorem decByte_p : (decByte m p).2 = setNZ p (m - 1) := rfl
end byteFlags

@[simp] theorem compareFlags_d (r m : Byte) (p : Flags) : (compareFlags r m p).d = p.d := rfl
@[simp] theorem compareFlags_i (r m : Byte) (p : Flags) : (compareFlags r m p).i = p.i := rfl
@[simp] theorem compareFlags_v (r m : Byte) (p : Flags) : (compareFlags r m p).v = p.v := rfl
@[simp] theorem bitFlags_c (a m : Byte) (p : Flags) : (bitFlags a m p).c = p.c := rfl
@[simp] theorem bitFlags_d (a m : Byte) (p : Flags) : (bitFlags a m p).d = p.d := rfl
@[simp] theorem bitFlags_i (a m : Byte) (p : Flags) : (bitFlags a m p).i = p.i := rfl

namespace Meaning
variable {s t : State} {op : Op} {o : Option Operand}

theorem sameHostState (h : Meaning s op o t) : SameHostState s t where
  run := by cases h <;> simp
  fault := by cases h <;> simp
  nmiPending := by cases h <;> simp
  pollI := by cases h <;> simp
  decimalMode := by cases h <;> simp
  irq := by cases h <;> simp
  nmiEarly := by cases h <;> simp
  host := by cases h <;> simp
  cycles := by cases h <;> simp

/-- No mnemonic writes the stored B (R31). -/
theorem p_b (h : Meaning s op o t) : t.p.b = s.p.b := by
  cases h <;> simp

/-- Every mnemonic keeps memory's canonical form: the ones that store do so by writes at 16-bit addresses (R62, R69). -/
theorem mem_wf (h : Meaning s op o t) (hw : s.mem.wf = true) : t.mem.wf = true := by
  cases h with
  | inc m | dec m => exact Loc.put_wf hw (.mem m) _
  | asl l | lsr l | rol l | ror l => exact Loc.put_wf hw l _
  | sta m | stx m | sty m => exact State.write_wf hw _ _
  | pha | php => exact State.push_wf hw _
  | jsr m => exact State.push_wf (State.push_wf hw _) _
  | brk => exact State.softwareBreak_wf hw
  | _ => simpa using hw

/-- The writers of A: the mnemonics of R21, and the shifts in accumulator mode. -/
theorem a_writers (h : Meaning s op o t) (ht : t.a ≠ s.a) :
    op ∈ [Op.lda, .pla, .txa, .tya, .adc, .sbc, .and, .ora, .eor] ∨ o = some (.loc .acc) := by
  cases h with
  | lda | pla | txa | tya | adc | sbc | and | ora | eor => exact .inl (by decide)
  | asl l | lsr l | rol l | ror l =>
    cases l with
    | acc => exact .inr rfl
    | mem m => exact absurd rfl ht
  | _ => exact absurd (by simp) ht

/-- The writers of X (R22). -/
theorem x_writers (h : Meaning s op o t) (ht : t.x ≠ s.x) : op ∈ [Op.ldx, .tax, .tsx, .inx, .dex] := by
  cases h with
  | ldx | tax | tsx | inx | dex => decide
  | _ => exact absurd (by simp) ht

/-- The writers of Y (R23). -/
theorem y_writers (h : Meaning s op o t) (ht : t.y ≠ s.y) : op ∈ [Op.ldy, .tay, .iny, .dey] := by
  cases h with
  | ldy | tay | iny | dey => decide
  | _ => exact absurd (by simp) ht

/-- The writers of S (R24). -/
theorem sp_writers (h : Meaning s op o t) (ht : t.sp ≠ s.sp) :
    op ∈ [Op.txs, .pha, .php, .pla, .plp, .jsr, .rts, .brk, .rti] := by
  cases h with
  | txs | pha | php | pla | plp | jsr | rts | brk | rti => decide
  | _ => exact absurd (by simp) ht

/-- The writers of PC after the fetch (R25). -/
theorem pc_writers (h : Meaning s op o t) (ht : t.pc ≠ s.pc) :
    op ∈ [Op.bpl, .bmi, .bvc, .bvs, .bcc, .bcs, .bne, .beq, .jmp, .jsr, .rts, .brk, .rti] := by
  cases h with
  | bpl | bmi | bvc | bvs | bcc | bcs | bne | beq | jmp | jsr | rts | brk | rti => decide
  | _ => exact absurd (by simp) ht

/-- The writers of C (R27). -/
theorem c_writers (h : Meaning s op o t) (ht : t.p.c ≠ s.p.c) :
    op ∈ [Op.adc, .sbc, .cmp, .cpx, .cpy, .asl, .lsr, .rol, .ror, .clc, .sec, .plp, .rti] := by
  cases h with
  | adc | sbc | cmp | cpx | cpy | asl | lsr | rol | ror | clc | sec | plp | rti => decide
  | _ => exact absurd (by simp) ht

/-- The writers of I (R29). -/
theorem i_writers (h : Meaning s op o t) (ht : t.p.i ≠ s.p.i) : op ∈ [Op.sei, .cli, .plp, .rti, .brk] := by
  cases h with
  | sei | cli | plp | rti | brk => decide
  | _ => exact absurd (by simp) ht

/-- The writers of D (R30). -/
theorem d_writers (h : Meaning s op o t) (ht : t.p.d ≠ s.p.d) : op ∈ [Op.sed, .cld, .plp, .rti] := by
  cases h with
  | sed | cld | plp | rti => decide
  | _ => exact absurd (by simp) ht

/-- The writers of V (R33). -/
theorem v_writers (h : Meaning s op o t) (ht : t.p.v ≠ s.p.v) : op ∈ [Op.adc, .sbc, .bit, .clv, .plp, .rti] := by
  cases h with
  | adc | sbc | bit | clv | plp | rti => decide
  | _ => exact absurd (by simp) ht

/-- The writers of N and Z, which are the same mnemonics (R28, R34). -/
theorem nz_writers (h : Meaning s op o t) (ht : t.p.n ≠ s.p.n ∨ t.p.z ≠ s.p.z) :
    op ∈ [Op.lda, .ldx, .ldy, .pla, .tax, .tay, .txa, .tya, .tsx, .adc, .sbc, .and, .ora, .eor, .bit, .asl, .lsr, .rol,
      .ror, .inc, .dec, .inx, .iny, .dex, .dey, .cmp, .cpx, .cpy, .plp, .rti] := by
  cases h with
  | sta | stx | sty | txs | bpl | bmi | bvc | bvs | bcc | bcs | bne | beq | pha | php | jmp | jsr | rts | clc | sec | cli | sei
  | cld | sed | clv | nop | brk => simp at ht
  | _ => decide

end Meaning

end Sys2Proof.Machine

namespace Sys2Proof

theorem Instr.mode_eq_acc {i : Instr} (h : i.operand = some (.loc .acc)) : i.mode = .acc := by
  simp only [Instr.mode, h, Operand.mode]

end Sys2Proof
end

section
/-! SUPPORT. What a step can do, said once: `CoreStep` lists the kinds of `Step(irq, nmiEarly)` (R130) with the state each
leaves, and `HostStep` those of a step of the machine, a host call among them (R418). -/

namespace Sys2Proof.Machine

open Safety

/-! ## The decoder's rejections (R105) -/

/-- The list runs through the empty cells of the matrix, in rising order. -/
theorem undefinedOpcodes_eq_filter :
    undefinedOpcodes = ((List.range 256).map (BitVec.ofNat 8)).filter fun op => (opcodeCell op).isNone := by
  decide

/-- The matrix leaves empty the cells of the listed bytes and no other. -/
theorem opcodeCell_isNone_iff (op : Byte) : (opcodeCell op).isNone = true ↔ op ∈ undefinedOpcodes := by
  have hop : op ∈ (List.range 256).map (BitVec.ofNat 8) :=
    List.mem_map.mpr ⟨op.toNat, List.mem_range.mpr op.isLt, by simp⟩
  rw [undefinedOpcodes_eq_filter, List.mem_filter]
  exact ⟨fun h => ⟨hop, h⟩, fun h => h.2⟩

/-- The decoder rejects its first byte, and only one whose cell is empty. -/
theorem decode_undefined {b op : Byte} {rest : List Byte} (h : decode (b :: rest) = .undefinedOpcode op) :
    op = b ∧ b ∈ undefinedOpcodes := by
  cases hc : opcodeCell b with
  | none =>
    simp only [decode, hc, Decoded.undefinedOpcode.injEq] at h
    exact ⟨h.symm, (opcodeCell_isNone_iff b).mp (by rw [hc]; rfl)⟩
  | some c =>
    simp only [decode, hc] at h
    cases c with
    | op i => simp [OpcodeCell.assemble] at h
    | op8 mk => cases rest <;> simp [OpcodeCell.assemble] at h
    | op16 mk => rcases rest with _ | ⟨lo, _ | ⟨hi, rest⟩⟩ <;> simp [OpcodeCell.assemble] at h

/-! ## The kinds of a step -/

/-- From the state `s`, one `Step(irq, nmiEarly)` leaves a state: the arbitration that picks each kind (R404), and what the kind
does (R130, R409, R417). -/
inductive CoreStep (s : State) : State → Prop where
  | halted (hrun : s.run = .halted) : CoreStep s (s.endStep s.nmiEarly 0)
  | nmi (hrun : s.run = .running) (hn : s.nmiPending = true) : CoreStep s s.nmiStep
  | irq (hrun : s.run = .running) (hn : s.nmiPending = false) (hirq : s.irq = true) (hpoll : s.pollI = false) :
      CoreStep s s.irqStep
  | instr (i : Instr) (u : State) (hrun : s.run = .running) (hn : s.nmiPending = false)
      (hmask : s.irq = false ∨ s.pollI = true) (hd : decode s.fetchBytes = .instr i)
      (hm : Meaning (s.pastInstr i) i.op i.operand u) : CoreStep s (u.retire i (s.pastInstr i))
  | fault (hrun : s.run = .running) (hn : s.nmiPending = false) (hmask : s.irq = false ∨ s.pollI = true)
      (hop : s.read s.pc ∈ undefinedOpcodes) : CoreStep s (s.faultStep (s.read s.pc))

theorem CoreStep.of_instrStep {s t : State} (hrun : s.run = .running) (hn : s.nmiPending = false)
    (hmask : s.irq = false ∨ s.pollI = true) (h : s.instrStep = .next t) : CoreStep s t := by
  rcases instrStep_cases s with ⟨i, hd, hi⟩ | ⟨op, hd, hf⟩
  · obtain ⟨_, _, u, rfl, rfl, hu, hm⟩ := exec_meaning i (s.pastInstr i)
    rw [hi u hu] at h
    injection h with ht
    exact ht ▸ .instr i u hrun hn hmask hd hm
  · obtain ⟨rfl, hop⟩ := decode_undefined hd
    rw [hf] at h
    injection h with ht
    exact ht ▸ .fault hrun hn hmask hop

theorem CoreStep.of_coreStep {s t : State} (h : s.coreStep = .next t) : CoreStep s t := by
  rcases coreStep_cases s with ⟨hrun, hs⟩ | ⟨hrun, hn, hs⟩ | ⟨hrun, hn, hirq, hpoll, hs⟩ | ⟨hrun, hn, hmask, hs⟩ <;>
    rw [hs] at h
  · injection h with ht
    exact ht ▸ .halted hrun
  · injection h with ht
    exact ht ▸ .nmi hrun hn
  · injection h with ht
    exact ht ▸ .irq hrun hn hirq hpoll
  · exact .of_instrStep hrun hn hmask h

/-- From the state `s`, one step of the machine leaves a state: a `Step(irq, nmiEarly)`, scheduled or not, or another call of
the host's schedule (R418). -/
inductive HostStep (s : State) : State → Prop where
  | core (e : Bool) (rest : List HostCall) (t : State)
      (hh : (s.host = [] ∧ rest = [] ∧ e = s.nmiEarly) ∨ s.host = .step e :: rest)
      (h : CoreStep ((s.setHost rest).setNmiEarly e) t) : HostStep s t
  | reset (d : ResetDraw) (rest : List HostCall) (hh : s.host = .reset d :: rest) : HostStep s ((s.setHost rest).resetWith d)
  | haltResume (rest : List HostCall) (hh : s.host = .haltResume :: rest) : HostStep s (s.setHost rest).haltResume
  | nmiRequest (rest : List HostCall) (hh : s.host = .nmiRequest :: rest) :
      HostStep s ((s.setHost rest).setNmiPending true)
  | driveIrq (l : Bool) (rest : List HostCall) (hh : s.host = .driveIrq l :: rest) : HostStep s ((s.setHost rest).setIrq l)
  | load (addr : Word) (bytes : List Byte) (rest : List HostCall) (hh : s.host = .load addr bytes :: rest) :
      HostStep s ((s.setHost rest).load addr bytes)

theorem HostStep.of_step {s t : State} (h : step s = .next t) : HostStep s t := by
  rcases step_cases s with ⟨hh, hs⟩ | ⟨e, rest, hh, hs⟩ | ⟨d, rest, hh, hs⟩ | ⟨rest, hh, hs⟩ | ⟨rest, hh, hs⟩ |
    ⟨l, rest, hh, hs⟩ | ⟨addr, bytes, rest, hh, hs⟩ <;> rw [hs] at h
  · exact .core s.nmiEarly s.host t (.inl ⟨hh, hh, rfl⟩) (.of_coreStep h)
  · exact .core e rest t (.inr hh) (.of_coreStep h)
  · injection h with ht
    exact ht ▸ .reset d rest hh
  · injection h with ht
    exact ht ▸ .haltResume rest hh
  · injection h with ht
    exact ht ▸ .nmiRequest rest hh
  · injection h with ht
    exact ht ▸ .driveIrq l rest hh
  · injection h with ht
    exact ht ▸ .load addr bytes rest hh

/-! ## What the kinds of a step keep -/

namespace State

/-- Loading writes memory and nothing else (R72). -/
theorem load_eq_setMem (s : State) (addr : Word) (bytes : List Byte) :
    s.load addr bytes = s.setMem (s.load addr bytes).mem := by
  induction bytes generalizing s addr with
  | nil => rfl
  | cons b bs ih => exact ih (s.write addr b) (addr + 1#16)

@[simp] theorem load_run (s : State) (addr : Word) (bytes : List Byte) : (s.load addr bytes).run = s.run := by
  rw [load_eq_setMem, setMem_run]

@[simp] theorem load_fault (s : State) (addr : Word) (bytes : List Byte) : (s.load addr bytes).fault = s.fault := by
  rw [load_eq_setMem, setMem_fault]

@[simp] theorem load_p (s : State) (addr : Word) (bytes : List Byte) : (s.load addr bytes).p = s.p := by
  rw [load_eq_setMem, setMem_p]

section endStep
variable (s : State) (latch : Bool) (cycles : Nat)
@[simp] theorem endStep_run : (s.endStep latch cycles).run = s.run := rfl
@[simp] theorem endStep_fault : (s.endStep latch cycles).fault = s.fault := rfl
@[simp] theorem endStep_p : (s.endStep latch cycles).p = s.p := rfl
@[simp] theorem endStep_mem : (s.endStep latch cycles).mem = s.mem := rfl
end endStep

section retire
variable (t s : State) (i : Instr)
@[simp] theorem retire_run : (t.retire i s).run = t.run := by rw [retire_eq]
@[simp] theorem retire_fault : (t.retire i s).fault = t.fault := by rw [retire_eq]
@[simp] theorem retire_p : (t.retire i s).p = t.p := by rw [retire_eq]
@[simp] theorem retire_mem : (t.retire i s).mem = t.mem := by rw [retire_eq]
@[simp] theorem pastInstr_run : (s.pastInstr i).run = s.run := rfl
@[simp] theorem pastInstr_fault : (s.pastInstr i).fault = s.fault := rfl
@[simp] theorem pastInstr_p : (s.pastInstr i).p = s.p := rfl
@[simp] theorem pastInstr_mem : (s.pastInstr i).mem = s.mem := rfl
end retire

section boundarySteps
variable (s : State)
@[simp] theorem nmiStep_run : s.nmiStep.run = s.run := by simp [nmiStep]
@[simp] theorem nmiStep_fault : s.nmiStep.fault = s.fault := by simp [nmiStep]
@[simp] theorem nmiStep_p : s.nmiStep.p = { s.p with i := true } := by simp [nmiStep]
@[simp] theorem nmiStep_mem :
    s.nmiStep.mem = ((s.setNmiPending false).interruptEntry Config.nmiVector false).mem := by
  simp only [nmiStep, endStep_mem, setPollI_mem]
@[simp] theorem irqStep_mem : s.irqStep.mem = (s.interruptEntry s.irqOrHijackedVector false).mem := by
  simp only [irqStep, endStep_mem, setPollI_mem]
@[simp] theorem irqStep_run : s.irqStep.run = s.run := by simp [irqStep]
@[simp] theorem irqStep_fault : s.irqStep.fault = s.fault := by simp [irqStep]
@[simp] theorem irqStep_p : s.irqStep.p = { s.p with i := true } := by simp [irqStep]
@[simp] theorem faultStep_run (op : Byte) : (s.faultStep op).run = .halted := by rw [faultStep_eq]
@[simp] theorem faultStep_fault (op : Byte) : (s.faultStep op).fault = some (.decodeFault s.pc op) := by rw [faultStep_eq]
@[simp] theorem faultStep_p (op : Byte) : (s.faultStep op).p = s.p := by rw [faultStep_eq]
@[simp] theorem faultStep_mem (op : Byte) : (s.faultStep op).mem = s.mem := by rw [faultStep_eq]
end boundarySteps

theorem nmiStep_wf {s : State} (h : s.mem.wf = true) : s.nmiStep.mem.wf = true := by
  rw [nmiStep_mem]
  exact interruptEntry_wf (by simpa using h) _ _

theorem irqStep_wf {s : State} (h : s.mem.wf = true) : s.irqStep.mem.wf = true := by
  rw [irqStep_mem]
  exact interruptEntry_wf h _ _

end State

namespace CoreStep
variable {s t : State}

/-- A `Step(irq, nmiEarly)` leaves the run state and the fault latch, unless it raises the decode fault (R37, R39, R409). -/
theorem run_fault (h : CoreStep s t) :
    (t.run = s.run ∧ t.fault = s.fault) ∨
    (t.run = .halted ∧ t.fault = some (.decodeFault s.pc (s.read s.pc)) ∧ s.read s.pc ∈ undefinedOpcodes) := by
  cases h with
  | halted | nmi | irq => exact .inl (by simp)
  | instr i u _ _ _ _ hm => exact .inl (by simp [hm.sameHostState.run, hm.sameHostState.fault])
  | fault _ _ _ hop => exact .inr (by simp [hop])

/-- While Halted, a `Step(irq, nmiEarly)` stays there (R417). -/
theorem run_of_halted (h : CoreStep s t) (hs : s.run = .halted) : t.run = .halted := by
  rcases h.run_fault with ⟨hrun, -⟩ | ⟨hrun, -⟩
  · rw [hrun, hs]
  · exact hrun

theorem p_b (h : CoreStep s t) : t.p.b = s.p.b := by
  cases h with
  | halted | nmi | irq | fault => simp
  | instr i u _ _ _ _ hm => simpa using hm.p_b

theorem mem_wf (h : CoreStep s t) (hw : s.mem.wf = true) : t.mem.wf = true := by
  cases h with
  | halted | fault => simpa using hw
  | nmi => exact State.nmiStep_wf hw
  | irq => exact State.irqStep_wf hw
  | instr i u _ _ _ _ hm => simpa using hm.mem_wf hw

theorem inv (h : CoreStep s t) (hs : Inv s) : Inv t := by
  obtain ⟨hw, hb, hlatch⟩ := hs
  refine ⟨h.mem_wf hw, h.p_b.trans hb, fun addr op hf => ?_⟩
  rcases h.run_fault with ⟨-, hfault⟩ | ⟨-, hfault, hop⟩
  · exact hlatch addr op (hfault ▸ hf)
  · obtain ⟨rfl, rfl⟩ : s.pc = addr ∧ s.read s.pc = op := by simpa [hfault] using hf
    exact hop

end CoreStep

namespace HostStep
variable {s t : State}

/-- Every kind of step keeps the invariant. -/
theorem inv (h : HostStep s t) (hs : Inv s) : Inv t := by
  obtain ⟨hw, hb, hlatch⟩ := hs
  cases h with
  | core e rest _ _ hc => exact hc.inv ⟨hw, hb, hlatch⟩
  | reset => exact ⟨hw, rfl, fun _ _ hf => nomatch hf⟩
  | haltResume | nmiRequest | driveIrq => exact ⟨hw, hb, hlatch⟩
  | load addr bytes rest =>
    exact ⟨State.load_wf (s := s.setHost rest) hw addr bytes, by simpa using hb, by simpa using hlatch⟩

/-- Running is left by halt_resume() or a decode fault. -/
theorem halted_of_running (h : HostStep s t) (hs : s.run = .running) (ht : t.run = .halted) :
    (∃ rest, s.host = .haltResume :: rest) ∨ t.fault = some (.decodeFault s.pc (s.read s.pc)) := by
  cases h with
  | core e rest _ _ hc =>
    rcases hc.run_fault with ⟨hrun, -⟩ | ⟨-, hfault, -⟩
    · simp [hrun, hs] at ht
    · exact .inr hfault
  | haltResume rest hh => exact .inl ⟨rest, hh⟩
  | reset => cases ht
  | nmiRequest | driveIrq | load => simp [hs] at ht

/-- Halted is left by halt_resume() or reset(). -/
theorem running_of_halted (h : HostStep s t) (hs : s.run = .halted) (ht : t.run = .running) :
    (∃ rest, s.host = .haltResume :: rest) ∨ ∃ draw rest, s.host = .reset draw :: rest := by
  cases h with
  | core e rest _ _ hc => simp [hc.run_of_halted hs] at ht
  | haltResume rest hh => exact .inl ⟨rest, hh⟩
  | reset d rest hh => exact .inr ⟨d, rest, hh⟩
  | nmiRequest | driveIrq | load => simp [hs] at ht

/-- A latched fault stays latched but for reset(). -/
theorem fault_cleared (h : HostStep s t) (hs : s.fault ≠ none) (ht : t.fault = none) :
    ∃ draw rest, s.host = .reset draw :: rest := by
  cases h with
  | core e rest _ _ hc =>
    rcases hc.run_fault with ⟨-, hfault⟩ | ⟨-, hfault, -⟩
    · exact absurd (hfault ▸ ht) hs
    · simp [hfault] at ht
  | reset d rest hh => exact ⟨d, rest, hh⟩
  | haltResume | nmiRequest | driveIrq => exact absurd ht hs
  | load => exact absurd (by simpa using ht) hs

end HostStep

/-! ## Halted steps and halt_resume() -/

/-- A `Step(irq, nmiEarly)` while Halted (R37, R403, R417, R510). -/
theorem coreStep_of_halted {s : State} (h : s.run = .halted) :
    s.coreStep = .next { s with nmiPending := s.nmiPending || s.nmiEarly, nmiEarly := false, cycles := 0 } := by
  simp only [State.coreStep, h, endStep_eq]

theorem haltResume_eq (s : State) : s.haltResume = { s with run := if s.run = .running then .halted else .running } := by
  cases h : s.run <;> simp [State.haltResume, State.setRun, h]

/-- A scheduled halt_resume() (R417). -/
theorem step_haltResume {s : State} {rest : List HostCall} (h : s.host = .haltResume :: rest) :
    step s = .next { s with host := rest, run := if s.run = .running then .halted else .running } := by
  rw [step_of_host_cons h, State.hostCall, haltResume_eq]
  rfl

/-- A scheduled `Step(irq, nmiEarly)` while Halted. -/
theorem step_halted_scheduled {s : State} {e : Bool} {rest : List HostCall} (h : s.host = .step e :: rest)
    (hrun : s.run = .halted) :
    step s = .next { s with host := rest, nmiPending := s.nmiPending || e, nmiEarly := false, cycles := 0 } := by
  rw [step_of_host_cons h]
  exact coreStep_of_halted (s := (s.setHost rest).setNmiEarly e) hrun

/-- Running one step more begins with that step. -/
theorem core_run_succ {s t : State} (h : step s = .next t) (k : Nat) : core.run (k + 1) s = core.run k t := by
  have hstep : core.step s = .next t := h
  simp only [Host.Core.run, hstep]

/-- A word of a memory that lists nothing reads as zero (R72, R502). -/
theorem read16_of_mem_nil {s : State} (h : s.mem = []) (addr : Word) : s.read16 addr = 0x0000#16 := by
  simp only [State.read16, State.read, h, Memory.byteAt]
  decide

end Sys2Proof.Machine
end

section
/-! SUPPORT. The status byte image in numbers, and taken apart again (R35, R38). -/

namespace Sys2Proof.Machine

/-- A bit appended below a word, in numbers. -/
theorem toNat_append_bit {w : Nat} (x : BitVec w) (y : BitVec 1) : (x ++ y).toNat = 2 * x.toNat + y.toNat := by
  rw [BitVec.toNat_append, ← Nat.shiftLeft_add_eq_or_of_lt y.isLt, Nat.shiftLeft_eq]
  omega

theorem packP_toNat (p : Flags) (b : Bool) :
    (packP p b).toNat = 128 * p.n.toNat + 64 * p.v.toNat + 32 + 16 * b.toNat + 8 * p.d.toNat + 4 * p.i.toNat
      + 2 * p.z.toNat + p.c.toNat := by
  simp only [packP, toNat_append_bit, BitVec.toNat_ofBool, BitVec.toNat_ofNat]
  omega

theorem unpackP_packP (p q : Flags) (b : Bool) : unpackP (packP p b) q = { p with b := q.b } := by
  simp only [unpackP, packP, BitVec.getLsbD_append]
  simp

end Sys2Proof.Machine
end

section
/-! The theorems that settle the statements about the machine's state (spec/10_state.md). -/

namespace Sys2Proof.Proofs

open Machine Safety

/-- Settles O45: each kind of step keeps the invariant. -/
theorem everyStepKeepsTheInvariant : Obligations.EveryStepKeepsTheInvariant := by
  intro s t hs h
  exact (HostStep.of_step h).inv hs

/-- Settles O33: the image bit by bit, as a number and read back. -/
theorem statusByteImageAndItsInverse : Obligations.StatusByteImageAndItsInverse := by
  intro p q b
  exact ⟨packP_toNat p b, unpackP_packP p q b⟩

/-- Settles O38, register by register. -/
theorem registersChangeOnlyByTheirWriters : Obligations.RegistersChangeOnlyByTheirWriters := by
  intro i s t h
  have hm := Meaning.of_exec h
  exact ⟨fun ha => (hm.a_writers ha).imp_right Instr.mode_eq_acc, hm.x_writers, hm.y_writers, hm.sp_writers, hm.pc_writers⟩

/-- Settles O39, flag by flag. -/
theorem flagsChangeOnlyByTheirWriters : Obligations.FlagsChangeOnlyByTheirWriters := by
  intro i s t h
  have hm := Meaning.of_exec h
  exact ⟨hm.c_writers, hm.i_writers, hm.d_writers, hm.v_writers, hm.nz_writers, hm.p_b⟩

/-- Settles O49: of the kinds of a step, only a decode fault, halt_resume() and reset() write the run state. -/
theorem runStateChangesOnlyByHostOrFault : Obligations.RunStateChangesOnlyByHostOrFault := by
  intro s t h
  have hk := HostStep.of_step h
  exact ⟨hk.halted_of_running, hk.running_of_halted⟩

/-- Settles O50: of the kinds of a step, only a decode fault and reset() write the latch. -/
theorem onlyResetClearsTheFaultLatch : Obligations.OnlyResetClearsTheFaultLatch := by
  intro s t h
  exact (HostStep.of_step h).fault_cleared

/-- Settles O41, field by field over the 56 mnemonics. -/
theorem hostAndLatchStateIsOutOfReach : Obligations.HostAndLatchStateIsOutOfReach := by
  intro i s t h
  obtain ⟨hrun, hfault, hnmi, hpoll, hmode, hirq, hearly, hhost, hcycles⟩ := (Meaning.of_exec h).sameHostState
  exact ⟨hrun, hfault, hnmi, hpoll, hmode, hirq, hearly, hhost, hcycles⟩

/-- Settles O44: nothing is latched at reset. -/
theorem resetStateMeetsTheInvariant : Obligations.ResetStateMeetsTheInvariant :=
  ⟨State.reset_mem_wf, rfl, fun _ _ hf => nomatch hf⟩

/-- Settles O48, by the halted case of `Step(irq, nmiEarly)`. -/
theorem haltedStepOnlyLatchesNmi : Obligations.HaltedStepOnlyLatchesNmi := by
  intro s hh hrun
  rw [step_of_host_nil hh, coreStep_of_halted hrun]

/-- Settles O56: PC after reset is the zero vector of a memory that lists nothing (R502). -/
theorem resetStateIsNewThenReset : Obligations.ResetStateIsNewThenReset := by
  refine ⟨fun mode mem draw => ?_, fun draw => ?_, ?_, ?_⟩
  · exact ⟨rfl, rfl, rfl, rfl, rfl, rfl, rfl, rfl, rfl, rfl, rfl, rfl⟩
  · rw [State.resetWith, read16_of_mem_nil rfl]
    rfl
  · exact (read16_of_mem_nil rfl _).symm
  · exact ⟨rfl, rfl, rfl, rfl, rfl, rfl, rfl⟩

/-- Settles O57: a halt_resume(), two halted steps and a halt_resume() are followed call by call. -/
theorem hostCallsChangeTheirOneThing : Obligations.HostCallsChangeTheirOneThing := by
  intro s rest level addr v
  refine ⟨step_haltResume, fun hh => step_of_host_cons hh, fun hh => step_of_host_cons hh, fun hh hw => ?_, fun hrun hh => ?_⟩
  · exact ⟨_, step_of_host_cons hh, rfl, State.write_wf hw addr v, State.read_write_eq hw addr v,
      fun b hb => State.read_write_ne s v hb⟩
  · rw [core_run_succ (step_haltResume hh), core_run_succ (step_halted_scheduled rfl (by simp [hrun])),
      core_run_succ (step_halted_scheduled rfl (by simp [hrun])), core_run_succ (step_haltResume rfl)]
    simp [Host.Core.run, hrun]

end Sys2Proof.Proofs
end

section
/-! SUPPORT. Memory as the statements speak of it: canonical lists told apart by a read, word addresses in numbers, the one byte
that a store writes, and the addresses outside which no instruction writes (spec/20_memory.md R60 to R76). -/

namespace Sys2Proof.Machine

open Safety

/-! ## Canonical lists (R60, log 1) -/

namespace Memory

theorem wfFrom_cons {lo k : Nat} {v : Byte} {m : Memory} :
    wfFrom lo ((k, v) :: m) = true ↔ lo ≤ k ∧ k < 65536 ∧ v ≠ Config.unlistedByte ∧ m.wfFrom (k + 1) = true := by
  simp only [wfFrom, Bool.and_eq_true, decide_eq_true_eq, bne_iff_ne, ne_eq, and_assoc]

/-- A canonical list starts at its first entry. -/
theorem wfFrom_head {lo k : Nat} {v : Byte} {m : Memory} (h : wfFrom lo ((k, v) :: m) = true) :
    wfFrom k ((k, v) :: m) = true :=
  wfFrom_cons.mpr ⟨Nat.le_refl k, (wfFrom_cons.mp h).2⟩

@[simp] theorem byteAt_cons_self (k : Nat) (v : Byte) (m : Memory) : byteAt ((k, v) :: m) k = v := if_pos rfl

theorem byteAt_cons_ne {k a : Nat} (h : k ≠ a) (v : Byte) (m : Memory) : byteAt ((k, v) :: m) a = m.byteAt a := if_neg h

/-- A byte other than the unlisted one stands at or above the address the list starts from. -/
theorem le_of_byteAt_ne {lo a : Nat} {m : Memory} (h : m.wfFrom lo = true) (ha : m.byteAt a ≠ Config.unlistedByte) :
    lo ≤ a :=
  Nat.le_of_not_lt fun hlt => ha (byteAt_of_lt h hlt)

/-- The first entry of a canonical list is listed in every memory that reads alike, whose list so starts at or below it. -/
theorem le_of_reads_alike {lo k lo' : Nat} {v : Byte} {m n : Memory} (hm : wfFrom lo ((k, v) :: m) = true)
    (hn : n.wfFrom lo' = true) (h : ∀ a < 65536, byteAt ((k, v) :: m) a = n.byteAt a) : lo' ≤ k := by
  obtain ⟨-, hk, hv, -⟩ := wfFrom_cons.mp hm
  apply le_of_byteAt_ne hn
  rw [← h k hk, byteAt_cons_self]
  exact hv

/-- Lists that read alike still do without a common first entry. -/
theorem tails_read_alike {k : Nat} {v : Byte} {m n : Memory} (hm : m.wfFrom (k + 1) = true) (hn : n.wfFrom (k + 1) = true)
    (h : ∀ a < 65536, byteAt ((k, v) :: m) a = byteAt ((k, v) :: n) a) (a : Nat) (ha : a < 65536) :
    m.byteAt a = n.byteAt a := by
  by_cases hka : k = a
  · rw [byteAt_of_lt hm (by omega), byteAt_of_lt hn (by omega)]
  · simpa only [byteAt_cons_ne hka] using h a ha

/-- Canonical lists that read alike have the same first entry, and so on. -/
theorem eq_of_byteAt_eq {lo : Nat} {m n : Memory} (hm : m.wfFrom lo = true) (hn : n.wfFrom lo = true)
    (h : ∀ a < 65536, m.byteAt a = n.byteAt a) : m = n := by
  induction m generalizing lo n with
  | nil =>
    cases n with
    | nil => rfl
    | cons c n =>
      obtain ⟨k, v⟩ := c
      have hle : k + 1 ≤ k := le_of_reads_alike (n := []) hn rfl fun a ha => (h a ha).symm
      omega
  | cons c m ih =>
    obtain ⟨k, v⟩ := c
    obtain ⟨-, hk, -, hm'⟩ := wfFrom_cons.mp hm
    cases n with
    | nil =>
      have hle : k + 1 ≤ k := le_of_reads_alike hm rfl h
      omega
    | cons c n =>
      obtain ⟨k', v'⟩ := c
      obtain ⟨-, -, -, hn'⟩ := wfFrom_cons.mp hn
      have hle : k' ≤ k := le_of_reads_alike hm (wfFrom_head hn) h
      have hge : k ≤ k' := le_of_reads_alike hn (wfFrom_head hm) fun a ha => (h a ha).symm
      obtain rfl : k = k' := Nat.le_antisymm hge hle
      obtain rfl : v = v' := by simpa using h k hk
      rw [ih hm' hn' (tails_read_alike hm' hn' h)]

end Memory

/-! ## Word addresses in numbers (R24, R66, R102) -/

theorem zeroPage_toNat (z : Byte) : (zeroPage z).toNat = z.toNat := by
  rw [zeroPage, wordOf_toNat, BitVec.toNat_ofNat]
  omega

theorem stackAddr_toNat (p : Byte) : (stackAddr p).toNat = 0x100 + p.toNat := by
  rw [stackAddr, wordOf_toNat]
  rfl

namespace State

theorem read16_toNat (s : State) (a : Word) :
    (s.read16 a).toNat = 256 * (s.mem.byteAt ((a.toNat + 1) % 65536)).toNat + (s.mem.byteAt a.toNat).toNat := by
  rw [read16, wordOf_toNat, read, read, BitVec.toNat_add]
  rfl

theorem read16ZP_toNat (s : State) (z : Byte) :
    (s.read16ZP z).toNat = 256 * (s.mem.byteAt ((z.toNat + 1) % 256)).toNat + (s.mem.byteAt z.toNat).toNat := by
  rw [read16ZP, wordOf_toNat, read, read, zeroPage_toNat, zeroPage_toNat, BitVec.toNat_add]
  rfl

/-! ## The byte that a store writes (R62, R75, R76) -/

theorem write_writesByte {s : State} (h : s.mem.wf = true) (addr : Word) (v : Byte) : WritesByte s (s.write addr v) addr v :=
  ⟨write_wf h addr v, read_write_eq h addr v, fun _ hb => read_write_ne s v hb⟩

theorem push_writesByte {s : State} (h : s.mem.wf = true) (v : Byte) : WritesByte s (s.push v) (stackAddr s.sp) v :=
  write_writesByte h (stackAddr s.sp) v

theorem push_eq (s : State) (v : Byte) : s.push v = { s with mem := (s.push v).mem, sp := s.sp - 1#8 } := rfl

theorem pull_eq (s : State) : s.pull = (s.read (stackAddr (s.sp + 1#8)), { s with sp := s.sp + 1#8 }) := rfl

theorem pull_push {s : State} (h : s.mem.wf = true) (v : Byte) : (s.push v).pull = (v, { s with mem := (s.push v).mem }) := by
  rw [pull_eq, push_sp, BitVec.sub_add_cancel, read_push_eq h]
  rfl

end State

/-! ## STA abs and LDA abs (R36, R270, R273) -/

theorem setNZ_eq_flagsNZ (p : Flags) (v : Byte) : setNZ p v = flagsNZ p v := by
  have hz : (v == 0x00#8) = decide (v.toNat = 0) := by
    rw [Bool.beq_eq_decide_eq]
    exact decide_eq_decide.mpr BitVec.toNat_eq
  rw [setNZ, flagsNZ, hz, getLsbD_seven_eq]

theorem resultToA_eq (v : Byte) (s : State) : resultToA v s = { s with a := v, p := flagsNZ s.p v } := by
  rw [← setNZ_eq_flagsNZ]
  rfl

theorem exec_staAbs (addr : Word) (s : State) : exec (.staAbs addr) s = .next (s.write addr s.a) := rfl

theorem exec_ldaAbs (addr : Word) (s : State) : exec (.ldaAbs addr) s = .next (resultToA (s.read addr) s) := rfl

/-! ## What an instruction leaves in memory (R69, R74) -/

theorem State.softwareBreak_read (s : State) {b : Word} (h0 : b ≠ stackAddr s.sp) (h1 : b ≠ stackAddr (s.sp - 1#8))
    (h2 : b ≠ stackAddr (s.sp - 2#8)) : s.softwareBreak.read b = s.read b :=
  read_interruptEntry_ne (s.setPc (s.pc + 1#16)) _ _ h0 h1 (sub_one_sub_one s.sp ▸ h2)

theorem callSubroutine_read (m : AddrMode) (s : State) {b : Word} (h0 : b ≠ stackAddr s.sp)
    (h1 : b ≠ stackAddr (s.sp - 1#8)) : (callSubroutine m s).read b = s.read b := by
  rw [State.read_of_mem_eq (callSubroutine_mem m s), State.read_push_ne _ _ h1, State.read_push_ne _ _ h0]

/-- A read-modify-write changes no byte but its operand's. -/
theorem readModifyWrite_read (f : Byte → Flags → Byte × Flags) (l : Loc) (s : State) {b : Word}
    (hb : b ∉ operandAddress (some (.loc l)) s) : (readModifyWrite f l s).read b = s.read b := by
  cases l with
  | acc => rfl
  | mem m => exact State.read_write_ne s _ (List.ne_of_not_mem_cons hb)

/-- A mnemonic writes only the bytes of the addresses it stores to. -/
theorem Meaning.read_of_not_stored {i : Instr} {s t : State} {op : Op} {o : Option Operand} (h : Meaning s op o t)
    (hop : i.op = op) (ho : i.operand = o) {b : Word} (hb : b ∉ storesTo i s) : t.read b = s.read b := by
  cases h with
  | inc | dec | asl | lsr | rol | ror =>
    simp only [storesTo, hop, ho] at hb
    exact readModifyWrite_read _ _ s hb
  | sta | stx | sty =>
    simp only [storesTo, hop, ho] at hb
    exact State.read_write_ne s _ (List.ne_of_not_mem_cons hb)
  | pha | php =>
    simp only [storesTo, hop] at hb
    exact State.read_push_ne s _ (List.ne_of_not_mem_cons hb)
  | jsr m =>
    simp only [storesTo, hop, List.mem_cons, List.not_mem_nil, or_false, not_or] at hb
    obtain ⟨h0, h1⟩ := hb
    exact callSubroutine_read m s h0 h1
  | brk =>
    simp only [storesTo, hop, List.mem_cons, List.not_mem_nil, or_false, not_or] at hb
    obtain ⟨h0, h1, h2⟩ := hb
    exact s.softwareBreak_read h0 h1 h2
  | _ => exact State.read_of_mem_eq (by simp) b

/-! ## Every step answers (R13, R400) -/

theorem instrStep_next (s : State) : ∃ t, s.instrStep = .next t := by
  rcases instrStep_cases s with ⟨i, -, hi⟩ | ⟨op, -, hf⟩
  · obtain ⟨_, _, u, -, -, hu, -⟩ := exec_meaning i (s.pastInstr i)
    exact ⟨_, hi u hu⟩
  · exact ⟨_, hf⟩

theorem coreStep_next (s : State) : ∃ t, s.coreStep = .next t := by
  rcases coreStep_cases s with ⟨-, hs⟩ | ⟨-, -, hs⟩ | ⟨-, -, -, -, hs⟩ | ⟨-, -, -, hs⟩
  · exact ⟨_, hs⟩
  · exact ⟨_, hs⟩
  · exact ⟨_, hs⟩
  · exact hs ▸ instrStep_next s

theorem hostCall_next (s : State) (call : HostCall) : ∃ t, s.hostCall call = .next t := by
  cases call with
  | step e => exact coreStep_next (s.setNmiEarly e)
  | reset | haltResume | nmiRequest | driveIrq | load => exact ⟨_, rfl⟩

theorem step_next (s : State) : ∃ t, step s = .next t := by
  cases h : s.host with
  | nil => exact step_of_host_nil h ▸ coreStep_next s
  | cons call rest => exact step_of_host_cons h ▸ hostCall_next (s.setHost rest) call

end Sys2Proof.Machine
end

section
/-! The theorems that settle the statements about memory and the step (spec/20_memory.md). -/

namespace Sys2Proof.Proofs

open Machine Safety

/-- Settles O8: canonical lists are compared entry by entry. -/
theorem canonicalMemoriesThatReadAlikeAreEqual : Obligations.CanonicalMemoriesThatReadAlikeAreEqual := by
  intro m n hm hn h
  exact Memory.eq_of_byteAt_eq hm hn h

/-- Settles O9: the pull reads the stack byte that the push wrote. -/
theorem pullAfterPushReturnsTheByte : Obligations.PullAfterPushReturnsTheByte := by
  intro s v hw
  exact ⟨State.push_writesByte hw v, State.push_eq s v, State.pull_push hw v⟩

/-- Settles O40, mnemonic by mnemonic. -/
theorem memoryChangesOnlyWhereStored : Obligations.MemoryChangesOnlyWhereStored := by
  intro i s t h
  have hm := Meaning.of_exec h
  exact ⟨fun b hb => hm.read_of_not_stored rfl rfl hb, hm.mem_wf⟩

/-- Settles O6, with the addresses in numbers. -/
theorem wordReadsAreLittleEndianAndWrap : Obligations.WordReadsAreLittleEndianAndWrap := by
  intro s a z
  exact ⟨s.read16_toNat a, s.read16ZP_toNat z, stackAddr_toNat z⟩

/-- Settles O7: LDA reads the byte that STA wrote, and A holds it already. -/
theorem storedByteIsLoadedBack : Obligations.StoredByteIsLoadedBack := by
  intro s addr hw
  refine ⟨s.write addr s.a, exec_staAbs addr s, State.write_writesByte hw addr s.a, ?_⟩
  rw [exec_ldaAbs, State.read_write_eq hw, resultToA_eq]
  rfl

/-- Settles O43: each kind of step answers. -/
theorem everyStepAnswersANextState : Obligations.EveryStepAnswersANextState :=
  step_next

end Sys2Proof.Proofs
end

section
/-! SUPPORT. The decoder against the encoder (spec/30_encoding.md R100 to R105): each cell of the opcode matrix stands at the
opcode byte of its instructions and has their format, and each instruction is one of its opcode's cell. -/

namespace Sys2Proof

open Machine Safety

@[simp] theorem loByte_wordOf (lo hi : Byte) : loByte (wordOf lo hi) = lo := by
  have hlo := lo.isLt
  apply BitVec.eq_of_toNat_eq
  rw [loByte_toNat, wordOf_toNat]
  omega

@[simp] theorem hiByte_wordOf (lo hi : Byte) : hiByte (wordOf lo hi) = hi := by
  have hlo := lo.isLt
  apply BitVec.eq_of_toNat_eq
  rw [hiByte_toNat, wordOf_toNat]
  omega

theorem decode_cons_of_cell {op : Byte} {c : OpcodeCell} (h : opcodeCell op = some c) (rest : List Byte) :
    decode (op :: rest) = c.assemble rest := by
  simp only [decode, h]

theorem decode_cons_of_empty {op : Byte} (h : opcodeCell op = none) (rest : List Byte) :
    decode (op :: rest) = .undefinedOpcode op := by
  simp only [decode, h]

/-- The instruction is one of the cell's, for some operand. -/
inductive OpcodeCell.Yields : OpcodeCell → Instr → Prop where
  | op (i : Instr) : Yields (.op i) i
  | op8 (mk : Byte → Instr) (b : Byte) : Yields (.op8 mk) (mk b)
  | op16 (mk : Word → Instr) (a : Word) : Yields (.op16 mk) (mk a)

/-- The encoder writes every instruction of the cell as `op` and the operand bytes of the cell's format (R100). -/
def OpcodeCell.EncodedAt (op : Byte) : OpcodeCell → Prop
  | .op i => encode i = [op]
  | .op8 mk => ∀ b, encode (mk b) = [op, b]
  | .op16 mk => ∀ a, encode (mk a) = [op, loByte a, hiByte a]

/-- The cell's instruction with operand zero. -/
def OpcodeCell.sample : OpcodeCell → Instr
  | .op i => i
  | .op8 mk => mk 0x00#8
  | .op16 mk => mk 0x0000#16

/-- The matrix has every row of R103's listing: at an instruction's opcode byte stands a cell that yields it, in its format.
The one-byte instructions come first, then the three-byte ones; the others have two bytes. With an operand, the opcode is
unfolded first: without it the lookup is closed and evaluates. -/
theorem opcodeCell_opcode (i : Instr) :
    ∃ c, opcodeCell i.opcode = some c ∧ c.Yields i ∧ c.EncodedAt i.opcode := by
  cases i with
  | inx | iny | dex | dey | aslA | lsrA | rolA | rorA | tax | tay | txa | tya | tsx | txs | pha | php | pla | plp | rts | clc
  | sec | cli | sei | cld | sed | clv | nop | brk | rti => exact ⟨_, rfl, .op _, rfl⟩
  | adcAbs | adcAbsX | adcAbsY | sbcAbs | sbcAbsX | sbcAbsY | incAbs | incAbsX | decAbs | decAbsX | andAbs | andAbsX | andAbsY
  | oraAbs | oraAbsX | oraAbsY | eorAbs | eorAbsX | eorAbsY | bitAbs | aslAbs | aslAbsX | lsrAbs | lsrAbsX | rolAbs | rolAbsX
  | rorAbs | rorAbsX | ldaAbs | ldaAbsX | ldaAbsY | ldxAbs | ldxAbsY | ldyAbs | ldyAbsX | staAbs | staAbsX | staAbsY | stxAbs
  | styAbs | cmpAbs | cmpAbsX | cmpAbsY | cpxAbs | cpyAbs | jmpAbs | jmpInd | jsrAbs =>
    simp only [Instr.opcode]
    exact ⟨_, rfl, .op16 _ _, fun _ => rfl⟩
  | _ =>
    simp only [Instr.opcode]
    exact ⟨_, rfl, .op8 _ _, fun _ => rfl⟩

/-- The listing has every cell of R103's matrix. -/
theorem sample_opcode : ∀ op : Byte, ∀ c ∈ opcodeCell op, c.sample.opcode = op := by
  decide

/-- Every cell of the matrix stands at the opcode byte that its instructions are encoded with. -/
theorem encodedAt_of_opcodeCell {op : Byte} {c : OpcodeCell} (h : opcodeCell op = some c) : c.EncodedAt op := by
  obtain ⟨c', hc', -, he⟩ := opcodeCell_opcode c.sample
  rw [sample_opcode op c h] at hc' he
  obtain rfl : c = c' := Option.some.inj (h.symm.trans hc')
  exact he

/-- A cell's format reads back what the encoder writes for its instructions. -/
theorem OpcodeCell.Yields.encode_eq {c : OpcodeCell} {i : Instr} {op : Byte} (hy : c.Yields i) (he : c.EncodedAt op) :
    ∃ operands, encode i = op :: operands ∧ ∀ rest, c.assemble (operands ++ rest) = .instr i := by
  cases hy with
  | op i => exact ⟨[], he, fun _ => rfl⟩
  | op8 mk b => exact ⟨[b], he b, fun _ => rfl⟩
  | op16 mk a =>
    exact ⟨[loByte a, hiByte a], he a, fun _ => congrArg (fun w => Decoded.instr (mk w)) (wordOf_loByte_hiByte a)⟩

/-- A cell's format takes the operand bytes that the encoder writes, and no other. -/
theorem OpcodeCell.EncodedAt.begins {c : OpcodeCell} {i : Instr} {op : Byte} {operands : List Byte} (he : c.EncodedAt op)
    (h : c.assemble operands = .instr i) : ∃ rest, op :: operands = encode i ++ rest := by
  cases c with
  | op j =>
    obtain rfl : j = i := by simpa [assemble] using h
    exact ⟨operands, by rw [show encode j = [op] from he]; rfl⟩
  | op8 mk =>
    rcases operands with _ | ⟨b, rest⟩
    · simp [assemble] at h
    · obtain rfl : mk b = i := by simpa [assemble] using h
      exact ⟨rest, by rw [he b]; rfl⟩
  | op16 mk =>
    rcases operands with _ | ⟨lo, _ | ⟨hi, rest⟩⟩
    · simp [assemble] at h
    · simp [assemble] at h
    · obtain rfl : mk (wordOf lo hi) = i := by simpa [assemble] using h
      exact ⟨rest, by rw [he (wordOf lo hi), loByte_wordOf, hiByte_wordOf]; rfl⟩

end Sys2Proof
end

section
/-! SUPPORT. The effective addresses and page crossings in numbers (spec/30_encoding.md R113 to R123). -/

namespace Sys2Proof

open Machine

/-- A word plus an index, in numbers (R117, R118, R121). -/
theorem add_zeroExtend_toNat (w : Word) (x : Byte) : (w + x.zeroExtend 16).toNat = (w.toNat + x.toNat) % 65536 := by
  rw [BitVec.toNat_add, BitVec.zeroExtend, BitVec.toNat_setWidth_of_le (by decide)]

/-- A page-zero address plus an index, in numbers (R114, R115). -/
theorem zeroPage_add_toNat (z x : Byte) : (zeroPage (z + x)).toNat = (z.toNat + x.toNat) % 256 := by
  rw [zeroPage_toNat, BitVec.toNat_add]

/-- A word plus a signed displacement, in numbers (R122). -/
theorem add_sext16_toNat (w : Word) (r : Byte) :
    ((w + sext16 r).toNat : Int) = ((w.toNat : Int) + r.toInt) % 65536 := by
  rw [sext16, BitVec.signExtend, BitVec.toNat_add, BitVec.toNat_ofInt]
  omega

/-- The indirect jump's target, in numbers: the high byte comes from the pointer's page (R119). -/
theorem Machine.State.read16SamePage_toNat (s : State) (ptr : Word) :
    (s.read16SamePage ptr).toNat =
      256 * (s.mem.byteAt (256 * (ptr.toNat / 256) + (ptr.toNat + 1) % 256)).toNat + (s.mem.byteAt ptr.toNat).toNat := by
  have hnext : (wordOf (loByte ptr + 1#8) (hiByte ptr)).toNat = 256 * (ptr.toNat / 256) + (ptr.toNat + 1) % 256 := by
    rw [wordOf_toNat, hiByte_toNat, BitVec.toNat_add, loByte_toNat]
    simp
  rw [State.read16SamePage, wordOf_toNat, State.read, State.read, hnext]

/-- Page numbers compared as the high bytes they are (R123). -/
theorem hiByte_bne (v w : Word) : (hiByte v != hiByte w) = decide (v.toNat / 256 ≠ w.toNat / 256) := by
  rw [bne, Bool.beq_eq_decide_eq, ← decide_not]
  refine decide_eq_decide.mpr (not_congr ?_)
  rw [BitVec.toNat_eq, hiByte_toNat, hiByte_toNat]

/-- A mode with a base address reports a crossing when the base and the effective address are in different pages (R123). -/
theorem AddrMode.crossed_of_base {m : AddrMode} {s : State} {base : Word} (h : m.base s = some base) :
    m.crossed s = decide (base.toNat / 256 ≠ (m.ea s).toNat / 256) := by
  simp only [AddrMode.crossed, h, hiByte_bne]

end Sys2Proof
end

section
/-! SUPPORT. The instruction step as one change of the state its effect leaves (R130), and the schedule apart from a
`Step(irq, nmiEarly)` (R418, log 7): each kind of it commutes with `State.setHost`. -/

namespace Sys2Proof.Machine

open Safety

/-- Where no interrupt is accepted and nothing is scheduled, a step is the instruction step. -/
theorem step_of_executes {s : State} (h : Executes s) : step s = s.instrStep := by
  obtain ⟨hhost, hrun, hnmi, hmask⟩ := h
  rw [step_of_host_nil hhost]
  rcases coreStep_cases s with ⟨hr, -⟩ | ⟨-, hn, -⟩ | ⟨-, -, hi, hp, -⟩ | ⟨-, -, -, hs⟩
  · simp [hrun] at hr
  · simp [hnmi] at hn
  · simp [hi, hp] at hmask
  · exact hs

theorem instrStep_of_decode {s t : State} {i : Instr} (hd : decode s.fetchBytes = .instr i)
    (ht : exec i (s.pastInstr i) = .next t) : s.instrStep = .next (t.retire i (s.pastInstr i)) := by
  simp only [State.instrStep, hd, ht]

theorem retire_setHost (t s : State) (i : Instr) (hs : List HostCall) :
    (t.setHost hs).retire i (s.setHost hs) = (t.retire i s).setHost hs := by
  simp only [State.retire, cycles_setHost]
  rfl

theorem instrStep_setHost {s t : State} (h : s.instrStep = .next t) (hs : List HostCall) :
    (s.setHost hs).instrStep = .next (t.setHost hs) := by
  rcases instrStep_cases s with ⟨i, hd, hi⟩ | ⟨op, hd, hf⟩
  · obtain ⟨_, _, u, -, -, hu, -⟩ := exec_meaning i (s.pastInstr i)
    obtain rfl : u.retire i (s.pastInstr i) = t := by simpa [hi u hu] using h
    rw [← retire_setHost]
    exact instrStep_of_decode hd (exec_setHost hu hs)
  · obtain rfl : s.faultStep op = t := by simpa [hf] using h
    have hd' : decode (s.setHost hs).fetchBytes = .undefinedOpcode op := hd
    simp only [State.instrStep, hd']
    rfl

theorem arbitrate_setHost (s : State) (hs : List HostCall) : (s.setHost hs).arbitrate = s.arbitrate := rfl

/-- Each kind of `Step(irq, nmiEarly)` leaves the schedule and does not depend on it. -/
theorem coreStep_setHost {s t : State} (h : s.coreStep = .next t) (hs : List HostCall) :
    (s.setHost hs).coreStep = .next (t.setHost hs) := by
  cases hrun : s.run with
  | halted =>
    simp only [State.coreStep, State.setHost_run, hrun, Host.Outcome.next.injEq] at h ⊢
    exact h ▸ rfl
  | running =>
    simp only [State.coreStep, State.setHost_run, arbitrate_setHost, hrun] at h ⊢
    cases ha : s.arbitrate with
    | nmi | irq =>
      simp only [ha, Host.Outcome.next.injEq] at h ⊢
      exact h ▸ rfl
    | instruction =>
      simp only [ha] at h ⊢
      exact instrStep_setHost h hs

end Sys2Proof.Machine
end

section
/-! The theorems that settle the statements about the encoding, the addressing modes and the step (spec/30_encoding.md). -/

namespace Sys2Proof.Proofs

open Machine Safety

/-- Settles O2: the cell at the instruction's opcode byte reads its operand bytes back, well formed or not. -/
theorem decodeOfEncodeIsTheInstruction : Obligations.DecodeOfEncodeIsTheInstruction := by
  intro i rest _
  obtain ⟨c, hc, hy, he⟩ := opcodeCell_opcode i
  obtain ⟨operands, hi, ha⟩ := hy.encode_eq he
  rw [hi, List.cons_append, decode_cons_of_cell hc, ha]

/-- Settles O3, by the format of the cell that the first byte selects. -/
theorem decodedBytesBeginWithTheEncoding : Obligations.DecodedBytesBeginWithTheEncoding := by
  intro bytes i h
  cases bytes with
  | nil => simp [decode] at h
  | cons op operands =>
    cases hc : opcodeCell op with
    | none => simp [decode_cons_of_empty hc] at h
    | some c =>
      rw [decode_cons_of_cell hc] at h
      exact (encodedAt_of_opcodeCell hc).begins h

/-- Settles O5, mode by mode. -/
theorem effectiveAddressesOfTheModes : Obligations.EffectiveAddressesOfTheModes := by
  intro s z a
  refine ⟨zeroPage_toNat z, zeroPage_add_toNat z s.x, zeroPage_add_toNat z s.y, rfl, add_zeroExtend_toNat a s.x,
    add_zeroExtend_toNat a s.y, ?indX, ?indY, s.read16SamePage_toNat a, add_sext16_toNat s.pc z⟩
  case indX =>
    rintro lo hi rfl rfl
    rw [AddrMode.ea, State.read16ZP_toNat, BitVec.toNat_add, Nat.mod_add_mod]
  case indY =>
    rintro lo hi rfl rfl
    rw [AddrMode.ea, add_zeroExtend_toNat, State.read16ZP_toNat]

/-- Settles O59: the four modes with a base address, and the six without. -/
theorem pageCrossingComparesBaseAndTarget : Obligations.PageCrossingComparesBaseAndTarget := by
  intro s a z
  refine ⟨?absX, ?absY, ?indY, AddrMode.crossed_of_base rfl, rfl, rfl, rfl, rfl, rfl, rfl⟩
  all_goals rw [AddrMode.crossed_of_base rfl, AddrMode.ea, add_zeroExtend_toNat]

/-- Settles O60: the same kind of step runs with the rest of the schedule put back. -/
theorem scheduledStepIsTheStepWithItsInput : Obligations.ScheduledStepIsTheStepWithItsInput := by
  intro s e rest h
  obtain ⟨t, ht⟩ := coreStep_next { s with host := [], nmiEarly := e }
  refine ⟨t, by rw [step_of_host_nil rfl, ht], ?_⟩
  rw [step_of_host_cons h]
  exact coreStep_setHost ht rest

/-- Settles O1, word by word. -/
theorem listedWordsDecodeToTheirInstructions : Obligations.ListedWordsDecodeToTheirInstructions :=
  ⟨rfl, rfl, rfl, rfl, rfl, rfl, rfl, rfl, rfl⟩

/-- Settles O4: a listed byte is one whose cell is empty. -/
theorem rejectedBytesAreTheListedOnes : Obligations.RejectedBytesAreTheListedOnes := by
  intro op rest
  refine ⟨fun h => (decode_undefined h).2, fun h => decode_cons_of_empty ?_ rest⟩
  exact Option.isNone_iff_eq_none.mp ((opcodeCell_isNone_iff op).mpr h)

/-- Settles O42: the instruction step, with its end written out. -/
theorem stepRunsTheFetchedInstruction : Obligations.StepRunsTheFetchedInstruction := by
  intro s t i hx hd s1 ht
  rw [step_of_executes hx, instrStep_of_decode hd ht, retire_eq]
  rfl

end Sys2Proof.Proofs
end

section
/-! SUPPORT. The forms of one mnemonic, said once for all of them: their encodings are the decoder's cells of that mnemonic
(spec/30_encoding.md R103), and `exec` is the mnemonic's meaning on the form's operand (R131). -/

namespace Sys2Proof

open Machine Safety

/-- The cell at an instruction's opcode byte is of its mnemonic and its mode, whatever the operand. -/
theorem opcodeCell_op_mode (i : Instr) :
    ∃ c, opcodeCell i.opcode = some c ∧ c.sample.op = i.op ∧ c.sample.mode = i.mode := by
  cases i <;> exact ⟨_, by simp only [Instr.opcode]; rfl, rfl, rfl⟩

/-- A list that has every cell of a mnemonic has the encoding of each of its forms. -/
theorem encodedAs_of_cells {i : Instr} {op : Op} {listed : List (Byte × Mode)} (hop : i.op = op)
    (h : ∀ b : Byte, ∀ c ∈ opcodeCell b, c.sample.op = op → (b, c.sample.mode) ∈ listed) : EncodedAs i listed := by
  obtain ⟨c, hc, hcop, hmode⟩ := opcodeCell_op_mode i
  rw [EncodedAs, ← hmode]
  exact h i.opcode c hc (hcop.trans hop)

namespace Machine

/-- An instruction answers the state that the meaning of its mnemonic leaves. -/
theorem exec_of_op {i : Instr} {op : Op} (hop : i.op = op) (s : State) :
    ∃ o t, i.operand = o ∧ exec i s = .next t ∧ Meaning s op o t := by
  obtain ⟨_, o, t, rfl, ho, ht, hm⟩ := exec_meaning i s
  exact ⟨o, t, ho, ht, hop ▸ hm⟩

theorem exec_adc {i : Instr} (hop : i.op = .adc) (s : State) :
    ∃ o, i.operand = some o ∧ exec i s = .next (adc o s) := by
  obtain ⟨_, _, ho, he, hm⟩ := exec_of_op hop s
  cases hm
  exact ⟨_, ho, he⟩

theorem exec_sbc {i : Instr} (hop : i.op = .sbc) (s : State) :
    ∃ o, i.operand = some o ∧ exec i s = .next (sbc o s) := by
  obtain ⟨_, _, ho, he, hm⟩ := exec_of_op hop s
  cases hm
  exact ⟨_, ho, he⟩

theorem exec_inc {i : Instr} (hop : i.op = .inc) (s : State) :
    ∃ m, i.operand = some (.loc (.mem m)) ∧ exec i s = .next (readModifyWrite incByte (.mem m) s) := by
  obtain ⟨_, _, ho, he, hm⟩ := exec_of_op hop s
  cases hm
  exact ⟨_, ho, he⟩

theorem exec_dec {i : Instr} (hop : i.op = .dec) (s : State) :
    ∃ m, i.operand = some (.loc (.mem m)) ∧ exec i s = .next (readModifyWrite decByte (.mem m) s) := by
  obtain ⟨_, _, ho, he, hm⟩ := exec_of_op hop s
  cases hm
  exact ⟨_, ho, he⟩

end Machine

end Sys2Proof
end

section
/-! SUPPORT. The binary adder in numbers (spec/41_arithmetic.md R200, R204, R205). -/

namespace Sys2Proof.Machine

open Safety

theorem addBinary_sum9_toNat (a m : Byte) (cin : Bool) :
    (a.zeroExtend 9 + m.zeroExtend 9 + (BitVec.ofBool cin).zeroExtend 9).toNat = a.toNat + m.toNat + cin.toNat := by
  have ha := a.isLt
  have hm := m.isLt
  have hc := cin.toNat_lt
  simp only [BitVec.zeroExtend, BitVec.toNat_add, BitVec.toNat_setWidth, BitVec.toNat_ofBool]
  omega

theorem addBinary_r (a m : Byte) (cin : Bool) :
    (addBinary a m cin).r = BitVec.ofNat 8 (a.toNat + m.toNat + cin.toNat) := by
  rw [← addBinary_sum9_toNat]
  rfl

theorem addBinary_cout (a m : Byte) (cin : Bool) :
    (addBinary a m cin).cout = decide (256 ≤ a.toNat + m.toNat + cin.toNat) := by
  have ha := a.isLt
  have hm := m.isLt
  have hc := cin.toNat_lt
  rw [addBinary, BitVec.getLsbD, addBinary_sum9_toNat, Nat.testBit_eq_decide_div_mod_eq]
  exact decide_eq_decide.mpr (by omega)

/-- The sign-bit comparison of R200: the operands have one sign and the result has the other. -/
theorem addBinary_vout_iff (a m : Byte) (cin : Bool) :
    (addBinary a m cin).vout = true ↔
      (128 ≤ a.toNat ↔ 128 ≤ m.toNat) ∧ ¬ (128 ≤ a.toNat ↔ 128 ≤ (a.toNat + m.toNat + cin.toNat) % 256) := by
  have hr : (addBinary a m cin).r.toNat = (a.toNat + m.toNat + cin.toNat) % 256 := by
    rw [addBinary_r, BitVec.toNat_ofNat]
  have hv : (addBinary a m cin).vout = (~~~(a ^^^ m) &&& (a ^^^ (addBinary a m cin).r)).getLsbD 7 := rfl
  rw [hv, BitVec.getLsbD_and, BitVec.getLsbD_not, BitVec.getLsbD_xor, BitVec.getLsbD_xor, getLsbD_seven_eq,
    getLsbD_seven_eq, getLsbD_seven_eq, hr]
  simp

/-- The sign-bit comparison tells signed overflow. -/
theorem addBinary_vout (a m : Byte) (cin : Bool) :
    (addBinary a m cin).vout =
      decide (a.toInt + m.toInt + cin.toNat < -128 ∨ 127 < a.toInt + m.toInt + cin.toNat) := by
  have ha := a.isLt
  have hm := m.isLt
  have hc := cin.toNat_lt
  rw [Bool.eq_iff_iff, addBinary_vout_iff, decide_eq_true_iff, BitVec.toInt_eq_toNat_cond, BitVec.toInt_eq_toNat_cond]
  omega

/-- The binary ADC in numbers. -/
theorem addWithCarry_eq {a m : Byte} {p : Flags} {sum : Nat} {signedSum : Int} (hsum : a.toNat + m.toNat + p.c.toNat = sum)
    (hsigned : a.toInt + m.toInt + p.c.toNat = signedSum) :
    addWithCarry a m p = (BitVec.ofNat 8 sum,
      { flagsNZ p (BitVec.ofNat 8 sum) with
        c := decide (256 ≤ sum), v := decide (signedSum < -128 ∨ 127 < signedSum) }) := by
  rw [addWithCarry, addFlags, addBinary_r, addBinary_cout, addBinary_vout, setNZ_eq_flagsNZ, hsum, hsigned]

theorem toInt_not (m : Byte) : (~~~m).toInt = -1 - m.toInt := by
  have hm := m.isLt
  rw [BitVec.toInt_eq_toNat_cond, BitVec.toInt_eq_toNat_cond, BitVec.toNat_not]
  omega

/-- What a subtraction takes away beside its operand: C = 1 means no borrow (R205). -/
def borrowIn (c : Bool) : Int := if c then 0 else 1

theorem borrowIn_eq (c : Bool) : borrowIn c = 1 - c.toNat := by
  cases c <;> rfl

/-- The binary SBC in numbers: adding the complement with the carry subtracts with the borrow. -/
theorem addWithCarry_not_eq {a m : Byte} {p : Flags} {diff signedDiff : Int}
    (hdiff : (a.toNat : Int) - m.toNat - borrowIn p.c = diff) (hsigned : a.toInt - m.toInt - borrowIn p.c = signedDiff) :
    addWithCarry a (~~~m) p = (BitVec.ofInt 8 diff,
      { flagsNZ p (BitVec.ofInt 8 diff) with
        c := decide (0 ≤ diff), v := decide (signedDiff < -128 ∨ 127 < signedDiff) }) := by
  have hm := m.isLt
  rw [borrowIn_eq] at hdiff hsigned
  have hsum : ((a.toNat + (~~~m).toNat + p.c.toNat : Nat) : Int) = diff + 256 := by
    rw [BitVec.toNat_not]
    omega
  have hr : BitVec.ofNat 8 (a.toNat + (~~~m).toNat + p.c.toNat) = BitVec.ofInt 8 diff := by
    apply BitVec.eq_of_toNat_eq
    rw [BitVec.toNat_ofNat, BitVec.toNat_ofInt]
    omega
  have hcarry : decide (256 ≤ a.toNat + (~~~m).toNat + p.c.toNat) = decide (0 ≤ diff) :=
    decide_eq_decide.mpr (by omega)
  have hsignedSum : a.toInt + (~~~m).toInt + p.c.toNat = signedDiff := by
    rw [toInt_not]
    omega
  rw [addWithCarry_eq rfl hsignedSum, hr, hcarry]

end Sys2Proof.Machine
end

section
/-! SUPPORT. The NMOS decimal algorithms in numbers (spec/41_arithmetic.md R202, R203), and what they give for BCD operands. -/

namespace Sys2Proof.Machine

open Safety

/-! ## Nibbles -/

theorem and_low_toNat (v : Byte) : (v &&& 0x0F#8).toNat = v.toNat % 16 := by
  rw [BitVec.toNat_and]
  exact Nat.and_two_pow_sub_one_eq_mod v.toNat 4

theorem and_high_toNat (v : Byte) : (v &&& 0xF0#8).toNat = 16 * (v.toNat / 16) := by
  revert v
  decide

theorem natAnd_fifteen (n : Nat) : n &&& 0x0F = n % 16 := Nat.and_two_pow_sub_one_eq_mod n 4

/-- The high nibble of a byte as a signed number (R202). -/
def signedHigh (v : Byte) : Int := if 128 ≤ v.toNat then 16 * (v.toNat / 16 : Nat) - 256 else 16 * (v.toNat / 16 : Nat)

theorem and_high_toInt (v : Byte) : (v &&& 0xF0#8).toInt = signedHigh v := by
  have hv := v.isLt
  rw [BitVec.toInt_eq_toNat_cond, and_high_toNat, signedHigh]
  omega

theorem testBit_seven (n : Nat) : (n % 256).testBit 7 = decide (128 ≤ n % 256) := by
  rw [Nat.testBit_eq_decide_div_mod_eq]
  exact decide_eq_decide.mpr (by omega)

/-! ## The algorithms -/

/-- `lo` of R202 after its adjustment. -/
def adcLow (a m c : Nat) : Nat :=
  let lo := a % 16 + m % 16 + c
  if 10 ≤ lo then (lo + 6) % 16 + 16 else lo

/-- `t` of R202 before the adjustment of the high digit. -/
def adcIntermediate (a m c : Nat) : Nat := 16 * (a / 16) + 16 * (m / 16) + adcLow a m c

/-- `t` of R202 after it: the accumulator and the carry. -/
def adcDecimalSum (a m c : Nat) : Nat :=
  let t := adcIntermediate a m c
  if 0xA0 ≤ t then t + 0x60 else t

/-- R202 in numbers. -/
theorem adcDecimal_eq (a m : Byte) (p : Flags) :
    adcDecimal a m p = (BitVec.ofNat 8 (adcDecimalSum a.toNat m.toNat p.c.toNat),
      { p with
        n := decide (128 ≤ adcIntermediate a.toNat m.toNat p.c.toNat % 256)
        v := decide (signedHigh a + signedHigh m + adcLow a.toNat m.toNat p.c.toNat < -128 ∨
          127 < signedHigh a + signedHigh m + adcLow a.toNat m.toNat p.c.toNat)
        c := decide (256 ≤ adcDecimalSum a.toNat m.toNat p.c.toNat)
        z := decide ((a.toNat + m.toNat + p.c.toNat) % 256 = 0) }) := by
  simp only [adcDecimal, and_low_toNat, and_high_toNat, and_high_toInt, natAnd_fifteen, testBit_seven]
  rfl

/-- `lo` of R203 after its adjustment. -/
def sbcLow (a m : Nat) (borrow : Int) : Int :=
  let lo : Int := (a % 16 : Nat) - (m % 16 : Nat) - borrow
  if lo < 0 then (lo - 6) % 16 - 16 else lo

/-- `t` of R203, the accumulator, after the adjustment of the high digit. -/
def sbcDecimalDiff (a m : Nat) (borrow : Int) : Int :=
  let t : Int := 16 * (a / 16 : Nat) - 16 * (m / 16 : Nat) + sbcLow a m borrow
  if t < 0 then t - 0x60 else t

/-- R203 in numbers. -/
theorem sbcDecimalResult_eq (a m : Byte) (c : Bool) :
    sbcDecimalResult a m c = BitVec.ofInt 8 (sbcDecimalDiff a.toNat m.toNat (borrowIn c)) := by
  have hlo : ∀ x : Int, x + c.toNat - 1 = x - borrowIn c := by cases c <;> simp [borrowIn]
  simp only [sbcDecimalResult, and_low_toNat, and_high_toNat, hlo, Int.natCast_mul, sbcDecimalDiff, sbcLow]
  rfl

theorem sbcDecimal_eq (a m : Byte) (p : Flags) :
    sbcDecimal a m p = (BitVec.ofInt 8 (sbcDecimalDiff a.toNat m.toNat (borrowIn p.c)), (addWithCarry a (~~~m) p).2) := by
  rw [sbcDecimal, sbcDecimalResult_eq, addWithCarry]

/-! ## BCD operands -/

/-- A byte made of the two digits of a number is BCD and stands for it. -/
theorem bcd_of_digits {v : Byte} {n : Nat} (hn : n < 100) (h : v.toNat = 16 * (n / 10) + n % 10) :
    IsBcd v ∧ bcdValue v = n := by
  unfold IsBcd bcdValue
  omega

theorem bcdValue_lt {v : Byte} (h : IsBcd v) : bcdValue v < 100 := by
  obtain ⟨hten, hone⟩ := h
  unfold bcdValue
  omega

/-- The adjustments of R202 skip the six codes that are no digits: in the low digit, and above 99 in the high one. -/
theorem adcDecimalSum_of_bcd {a m : Byte} (ha : IsBcd a) (hm : IsBcd m) (c : Bool) {sum : Nat}
    (hsum : bcdValue a + bcdValue m + c.toNat = sum) :
    adcDecimalSum a.toNat m.toNat c.toNat = 16 * (sum / 10) + sum % 10 + if 100 ≤ sum then 96 else 0 := by
  have hc := c.toNat_lt
  simp only [IsBcd, bcdValue] at ha hm hsum
  simp only [adcDecimalSum, adcIntermediate, adcLow]
  split <;> split <;> split <;> omega

/-- The adjustments of R203 skip the same codes downwards: below 0 the two digits are those of the difference modulo 100. -/
theorem sbcDecimalDiff_of_bcd {a m : Byte} (ha : IsBcd a) (hm : IsBcd m) (c : Bool) {diff : Int}
    (hdiff : (bcdValue a : Int) - bcdValue m - borrowIn c = diff) :
    sbcDecimalDiff a.toNat m.toNat (borrowIn c) =
      16 * (diff % 100 / 10) + diff % 100 % 10 - if diff < 0 then 256 else 0 := by
  have hc := c.toNat_lt
  rw [borrowIn_eq] at hdiff ⊢
  simp only [IsBcd, bcdValue] at ha hm hdiff
  simp only [sbcDecimalDiff, sbcLow]
  split <;> split <;> split <;> omega

/-- For BCD operands, decimal ADC is the two-digit sum with its carry (R202). -/
theorem adcDecimal_of_bcd {a m : Byte} (ha : IsBcd a) (hm : IsBcd m) (p : Flags) {sum : Nat}
    (hsum : bcdValue a + bcdValue m + p.c.toNat = sum) :
    IsBcd (adcDecimal a m p).1 ∧ bcdValue (adcDecimal a m p).1 = sum % 100 ∧
      (adcDecimal a m p).2.c = decide (100 ≤ sum) := by
  have ha' := bcdValue_lt ha
  have hm' := bcdValue_lt hm
  have hc := p.c.toNat_lt
  rw [adcDecimal_eq, adcDecimalSum_of_bcd ha hm p.c hsum]
  refine and_assoc.mp ⟨bcd_of_digits (Nat.mod_lt sum (by decide)) ?digits, decide_eq_decide.mpr ?carry⟩
  case digits =>
    rw [BitVec.toNat_ofNat]
    split <;> omega
  case carry => split <;> omega

/-- For BCD operands, decimal SBC is the two-digit difference modulo 100, with C for no borrow (R203). -/
theorem sbcDecimal_of_bcd {a m : Byte} (ha : IsBcd a) (hm : IsBcd m) (p : Flags) {diff : Int}
    (hdiff : (bcdValue a : Int) - bcdValue m - borrowIn p.c = diff) :
    IsBcd (sbcDecimal a m p).1 ∧ bcdValue (sbcDecimal a m p).1 = (diff % 100).toNat ∧
      (sbcDecimal a m p).2.c = decide (0 ≤ diff) := by
  have ha' := bcdValue_lt ha
  have hm' := bcdValue_lt hm
  have hborrow := borrowIn_eq p.c
  have hc := p.c.toNat_lt
  rw [sbcDecimal_eq, addWithCarry_not_eq rfl rfl, sbcDecimalDiff_of_bcd ha hm p.c hdiff]
  refine and_assoc.mp ⟨bcd_of_digits (by omega) ?digits, decide_eq_decide.mpr ?carry⟩
  case digits =>
    rw [BitVec.toNat_ofInt]
    split <;> omega
  case carry =>
    simp only [IsBcd, bcdValue] at ha hm hdiff
    omega

/-! ## Which definition ADC and SBC take (R201) -/

theorem State.decimal_eq_true {s : State} (hd : s.p.d = true) (hmode : s.decimalMode = .nmosBcd) : s.decimal = true := by
  simp [State.decimal, hd, hmode]

theorem State.decimal_eq_false {s : State} (h : s.p.d = false ∨ s.decimalMode = .binaryOnly) : s.decimal = false := by
  rcases h with h | h <;> simp [State.decimal, h]

theorem adc_of_decimal {s : State} (h : s.decimal = true) (o : Operand) :
    adc o s = { s with a := (adcDecimal s.a (o.value s) s.p).1, p := (adcDecimal s.a (o.value s) s.p).2 } := by
  simp only [adc, h, if_true]
  rfl

theorem adc_of_binary {s : State} (h : s.decimal = false) (o : Operand) :
    adc o s = { s with a := (addWithCarry s.a (o.value s) s.p).1, p := (addWithCarry s.a (o.value s) s.p).2 } := by
  simp only [adc, h]
  rfl

theorem sbc_of_decimal {s : State} (h : s.decimal = true) (o : Operand) :
    sbc o s = { s with a := (sbcDecimal s.a (o.value s) s.p).1, p := (sbcDecimal s.a (o.value s) s.p).2 } := by
  simp only [sbc, h, if_true]
  rfl

theorem sbc_of_binary {s : State} (h : s.decimal = false) (o : Operand) :
    sbc o s = { s with a := (addWithCarry s.a (~~~o.value s) s.p).1, p := (addWithCarry s.a (~~~o.value s) s.p).2 } := by
  simp only [sbc, h]
  rfl

end Sys2Proof.Machine
end

section
/-! SUPPORT. No instruction but a decimal ADC or SBC reads `DECIMAL_MODE` (R201): each shared operation commutes with a change of
it. -/

namespace Sys2Proof.Machine

/-- The state under another value of the parameter. -/
def State.withDecimalMode (s : State) (mode : DecimalMode) : State := { s with decimalMode := mode }

section withDecimalMode
variable (s : State) (mode : DecimalMode)

theorem ea_withDecimalMode (m : AddrMode) : m.ea (s.withDecimalMode mode) = m.ea s := by cases m <;> rfl

theorem value_withDecimalMode (o : Operand) : o.value (s.withDecimalMode mode) = o.value s := by
  cases o with
  | imm _ => rfl
  | loc l => cases l with
    | acc => rfl
    | mem m => rw [Operand.value, Loc.value, ea_withDecimalMode]; rfl

theorem adc_withDecimalMode (hd : s.p.d = false) (o : Operand) :
    adc o (s.withDecimalMode mode) = (adc o s).withDecimalMode mode := by
  have hs : s.decimal = false := State.decimal_eq_false (.inl hd)
  have hs' : (s.withDecimalMode mode).decimal = false := State.decimal_eq_false (.inl hd)
  rw [adc_of_binary hs, adc_of_binary hs', value_withDecimalMode]
  rfl

theorem sbc_withDecimalMode (hd : s.p.d = false) (o : Operand) :
    sbc o (s.withDecimalMode mode) = (sbc o s).withDecimalMode mode := by
  have hs : s.decimal = false := State.decimal_eq_false (.inl hd)
  have hs' : (s.withDecimalMode mode).decimal = false := State.decimal_eq_false (.inl hd)
  rw [sbc_of_binary hs, sbc_of_binary hs', value_withDecimalMode]
  rfl

theorem readModifyWrite_withDecimalMode (f : Byte → Flags → Byte × Flags) (l : Loc) :
    readModifyWrite f l (s.withDecimalMode mode) = (readModifyWrite f l s).withDecimalMode mode := by
  cases l with
  | acc => rfl
  | mem m => rw [readModifyWrite, Loc.value, Loc.put, ea_withDecimalMode]; rfl

theorem storeByte_withDecimalMode (v : Byte) (m : AddrMode) :
    storeByte v m (s.withDecimalMode mode) = (storeByte v m s).withDecimalMode mode := by
  rw [storeByte, ea_withDecimalMode]; rfl

theorem bitTest_withDecimalMode (o : Operand) :
    bitTest o (s.withDecimalMode mode) = (bitTest o s).withDecimalMode mode := by
  rw [bitTest, value_withDecimalMode]; rfl

theorem compareWith_withDecimalMode (r : Byte) (o : Operand) :
    compareWith r o (s.withDecimalMode mode) = (compareWith r o s).withDecimalMode mode := by
  rw [compareWith, value_withDecimalMode]; rfl

theorem jump_withDecimalMode (m : AddrMode) : jump m (s.withDecimalMode mode) = (jump m s).withDecimalMode mode := by
  rw [jump, ea_withDecimalMode]; rfl

theorem callSubroutine_withDecimalMode (m : AddrMode) :
    callSubroutine m (s.withDecimalMode mode) = (callSubroutine m s).withDecimalMode mode := by
  simp only [callSubroutine, ea_withDecimalMode]; rfl

end withDecimalMode

/-- A mnemonic leaves the same state under another value of the parameter, but for ADC and SBC with D = 1. -/
theorem Meaning.withDecimalMode {s t : State} {op : Op} {o : Option Operand} (h : Meaning s op o t)
    (hop : (op ≠ .adc ∧ op ≠ .sbc) ∨ s.p.d = false) (mode : DecimalMode) :
    Meaning (s.withDecimalMode mode) op o (t.withDecimalMode mode) := by
  cases h with
  | adc o => exact adc_withDecimalMode s mode (hop.resolve_left fun hne => hne.1 rfl) o ▸ .adc o
  | sbc o => exact sbc_withDecimalMode s mode (hop.resolve_left fun hne => hne.2 rfl) o ▸ .sbc o
  | inc | dec | asl | lsr | rol | ror =>
    rw [← readModifyWrite_withDecimalMode]
    constructor
  | sta | stx | sty =>
    rw [← storeByte_withDecimalMode]
    constructor
  | and | ora | eor | lda | ldx | ldy =>
    rw [← value_withDecimalMode s mode]
    constructor
  | cmp | cpx | cpy =>
    rw [← compareWith_withDecimalMode]
    constructor
  | bit m => exact bitTest_withDecimalMode s mode (.loc (.mem m)) ▸ .bit m
  | jmp m => exact jump_withDecimalMode s mode m ▸ .jmp m
  | jsr m => exact callSubroutine_withDecimalMode s mode m ▸ .jsr m
  | _ => constructor

theorem exec_withDecimalMode {i : Instr} {s t : State} (h : exec i s = .next t)
    (hop : (i.op ≠ .adc ∧ i.op ≠ .sbc) ∨ s.p.d = false) (mode : DecimalMode) :
    exec i (s.withDecimalMode mode) = .next (t.withDecimalMode mode) := by
  obtain ⟨_, u, rfl, hu, hm⟩ := exec_of_op rfl (s.withDecimalMode mode)
  rw [hu, hm.unique ((Meaning.of_exec h).withDecimalMode hop mode)]

end Sys2Proof.Machine
end

section
/-! SUPPORT. INC and DEC as one change of memory and flags, and the index increments in numbers (R206 to R211). -/

namespace Sys2Proof.Machine

open Safety

/-- A read-modify-write on memory writes the byte at its effective address. -/
theorem readModifyWrite_writesByte {s : State} (h : s.mem.wf = true) (f : Byte → Flags → Byte × Flags) (m : AddrMode) :
    WritesByte s (readModifyWrite f (.mem m) s) (m.ea s) (f (s.read (m.ea s)) s.p).1 :=
  State.write_writesByte h (m.ea s) _

/-- A read-modify-write on memory changes memory and the flags alone. -/
theorem readModifyWrite_eq (f : Byte → Flags → Byte × Flags) (m : AddrMode) (s : State) :
    readModifyWrite f (.mem m) s =
      { s with mem := (readModifyWrite f (.mem m) s).mem, p := (f (s.read (m.ea s)) s.p).2 } := rfl

theorem ofInt_toNat_add (v : Byte) (k : Int) : BitVec.ofInt 8 (v.toNat + k) = v + BitVec.ofInt 8 k := by
  rw [BitVec.ofInt_add, BitVec.ofInt_natCast, BitVec.ofNat_toNat, BitVec.setWidth_eq]

theorem add_one_eq_ofNat (v : Byte) : v + 1#8 = BitVec.ofNat 8 (v.toNat + 1) := by
  rw [BitVec.ofNat_add, BitVec.ofNat_toNat, BitVec.setWidth_eq]

theorem sub_one_eq_ofNat (v : Byte) : v - 1#8 = BitVec.ofNat 8 (v.toNat + 255) := by
  rw [BitVec.ofNat_add, BitVec.ofNat_toNat, BitVec.setWidth_eq, BitVec.sub_eq_add_neg]
  rfl

theorem incByte_eq (v : Byte) (p : Flags) :
    incByte v p = (BitVec.ofInt 8 (v.toNat + 1), flagsNZ p (BitVec.ofInt 8 (v.toNat + 1))) := by
  rw [incByte, ofInt_toNat_add, setNZ_eq_flagsNZ]
  rfl

theorem decByte_eq (v : Byte) (p : Flags) :
    decByte v p = (BitVec.ofInt 8 (v.toNat + -1), flagsNZ p (BitVec.ofInt 8 (v.toNat + -1))) := by
  rw [decByte, ofInt_toNat_add, setNZ_eq_flagsNZ, BitVec.sub_eq_add_neg]
  rfl

end Sys2Proof.Machine
end

section
/-! The theorems that settle the statements about the arithmetic instructions (spec/41_arithmetic.md). -/

namespace Sys2Proof.Proofs

open Machine Safety

/-- Settles O10: the adder and the decimal algorithm, each in numbers. -/
theorem adcAddsWithCarry : Obligations.AdcAddsWithCarry := by
  intro i s hop
  obtain ⟨o, ho, he⟩ := exec_adc hop s
  refine ⟨encodedAs_of_cells hop (by decide), o, ho, fun hb => ?binary, fun ⟨hd, hmode⟩ => ?decimal⟩
  case binary => rw [he, adc_of_binary (State.decimal_eq_false hb), addWithCarry_eq rfl rfl]
  case decimal =>
    rw [he, adc_of_decimal (State.decimal_eq_true hd hmode), adcDecimal_eq]
    rfl

/-- Settles O11: adding the complement subtracts, and the decimal algorithm takes the flags from there. -/
theorem sbcSubtractsWithBorrow : Obligations.SbcSubtractsWithBorrow := by
  intro i s hop
  obtain ⟨o, ho, he⟩ := exec_sbc hop s
  refine ⟨encodedAs_of_cells hop (by decide), o, ho, fun hb => ?binary, fun ⟨hd, hmode⟩ => ?decimal⟩
  case binary =>
    rw [he, sbc_of_binary (State.decimal_eq_false hb), addWithCarry_not_eq rfl rfl]
    rfl
  case decimal =>
    rw [he, sbc_of_decimal (State.decimal_eq_true hd hmode), sbcDecimal_eq, addWithCarry_not_eq rfl rfl]
    rfl

/-- Settles O12, by the digits that the decimal algorithm leaves. -/
theorem decimalAdcIsTheTwoDigitSum : Obligations.DecimalAdcIsTheTwoDigitSum := by
  intro i o s hop ho hd hmode ha hm
  obtain ⟨o', ho', he⟩ := exec_adc hop s
  obtain rfl : o' = o := Option.some.inj (ho'.symm.trans ho)
  rw [adc_of_decimal (State.decimal_eq_true hd hmode)] at he
  exact ⟨_, he, adcDecimal_of_bcd ha hm s.p rfl⟩

/-- Settles O13, by the digits that the decimal algorithm leaves. -/
theorem decimalSbcIsTheTwoDigitDifference : Obligations.DecimalSbcIsTheTwoDigitDifference := by
  intro i o s hop ho hd hmode ha hm
  obtain ⟨o', ho', he⟩ := exec_sbc hop s
  obtain rfl : o' = o := Option.some.inj (ho'.symm.trans ho)
  rw [sbc_of_decimal (State.decimal_eq_true hd hmode)] at he
  obtain ⟨hbcd, hval, hcarry⟩ := sbcDecimal_of_bcd ha hm s.p rfl
  have hc := s.p.c.toNat_lt
  refine ⟨_, he, hbcd, ?difference, hcarry.trans (decide_eq_decide.mpr ?noBorrow)⟩
  case difference => rw [hval, Int.toNat_of_nonneg (Int.emod_nonneg _ (by decide)), borrowIn_eq]
  case noBorrow =>
    rw [borrowIn_eq]
    omega

/-- Settles O14: the meaning of each mnemonic is the same under both values. -/
theorem decimalModeMattersToDecimalAddsAlone : Obligations.DecimalModeMattersToDecimalAddsAlone := by
  intro i s t mode hop h
  exact exec_withDecimalMode h hop mode

/-- Settles O15: INC and DEC are one read-modify-write, of the byte plus or minus one. -/
theorem incDecChangeOneMemoryByte : Obligations.IncDecChangeOneMemoryByte := by
  intro i s hw hop
  rcases hop with hop | hop
  · obtain ⟨m, ho, he⟩ := exec_inc hop s
    have hwrites := readModifyWrite_writesByte hw incByte m
    have heq := readModifyWrite_eq incByte m s
    rw [incByte_eq] at hwrites heq
    simp only [hop, if_true]
    exact ⟨encodedAs_of_cells hop (by decide), m, _, ho, he, heq, hwrites⟩
  · obtain ⟨m, ho, he⟩ := exec_dec hop s
    have hwrites := readModifyWrite_writesByte hw decByte m
    have heq := readModifyWrite_eq decByte m s
    rw [decByte_eq] at hwrites heq
    simp only [hop, reduceCtorEq, if_false]
    exact ⟨encodedAs_of_cells hop (by decide), m, _, ho, he, heq, hwrites⟩

/-- Settles O16: adding 255 modulo 256 subtracts one. -/
theorem indexIncrementsWrap : Obligations.IndexIncrementsWrap := by
  intro s
  simp only [← add_one_eq_ofNat, ← sub_one_eq_ofNat, ← setNZ_eq_flagsNZ]
  exact ⟨rfl, rfl, rfl, rfl, rfl, rfl, rfl, rfl⟩

end Sys2Proof.Proofs
end

section
/-! SUPPORT. What the logical instructions leave, in every form, and the flags of BIT in numbers (R230 to R233). -/

namespace Sys2Proof.Machine

open Safety

theorem exec_and {i : Instr} (hop : i.op = .and) (s : State) :
    ∃ o, i.operand = some o ∧
      exec i s = .next { s with a := s.a &&& o.value s, p := flagsNZ s.p (s.a &&& o.value s) } := by
  obtain ⟨_, _, ho, he, hm⟩ := exec_of_op hop s
  cases hm
  exact ⟨_, ho, by rw [he, resultToA_eq]⟩

theorem exec_ora {i : Instr} (hop : i.op = .ora) (s : State) :
    ∃ o, i.operand = some o ∧
      exec i s = .next { s with a := s.a ||| o.value s, p := flagsNZ s.p (s.a ||| o.value s) } := by
  obtain ⟨_, _, ho, he, hm⟩ := exec_of_op hop s
  cases hm
  exact ⟨_, ho, by rw [he, resultToA_eq]⟩

theorem exec_eor {i : Instr} (hop : i.op = .eor) (s : State) :
    ∃ o, i.operand = some o ∧
      exec i s = .next { s with a := s.a ^^^ o.value s, p := flagsNZ s.p (s.a ^^^ o.value s) } := by
  obtain ⟨_, _, ho, he, hm⟩ := exec_of_op hop s
  cases hm
  exact ⟨_, ho, by rw [he, resultToA_eq]⟩

theorem exec_bit {i : Instr} (hop : i.op = .bit) (s : State) :
    ∃ m, i.operand = some (.loc (.mem m)) ∧ exec i s = .next (bitTest (.loc (.mem m)) s) := by
  obtain ⟨_, _, ho, he, hm⟩ := exec_of_op hop s
  cases hm
  exact ⟨_, ho, he⟩

/-- Bit 6 of a byte, in numbers. -/
theorem getLsbD_six_eq (v : Byte) : v.getLsbD 6 = decide (64 ≤ v.toNat % 128) := by
  rw [BitVec.getLsbD, Nat.testBit_eq_decide_div_mod_eq]
  exact decide_eq_decide.mpr (by omega)

/-- R233 in numbers. -/
theorem bitFlags_eq (a m : Byte) (p : Flags) :
    bitFlags a m p =
      { p with z := decide (a &&& m = 0#8), n := decide (128 ≤ m.toNat), v := decide (64 ≤ m.toNat % 128) } := by
  rw [bitFlags, getLsbD_seven_eq, getLsbD_six_eq, Bool.beq_eq_decide_eq]

/-- BIT on a memory operand changes the flags alone. -/
theorem bitTest_mem_eq (m : AddrMode) (s : State) :
    bitTest (.loc (.mem m)) s = { s with p := bitFlags s.a (s.read (m.ea s)) s.p } := rfl

end Sys2Proof.Machine
end

section
/-! The theorems that settle the statements about the logical instructions (spec/42_logical.md). -/

namespace Sys2Proof.Proofs

open Machine Safety

/-- Settles O17: each of the three is one write of A with N and Z, in all forms of the decoder's cells. -/
theorem logicalOperationsWriteA : Obligations.LogicalOperationsWriteA := by
  intro i s
  refine ⟨fun hop => ?and, fun hop => ?ora, fun hop => ?eor⟩
  case and => exact ⟨encodedAs_of_cells hop (by decide), exec_and hop s⟩
  case ora => exact ⟨encodedAs_of_cells hop (by decide), exec_ora hop s⟩
  case eor => exact ⟨encodedAs_of_cells hop (by decide), exec_eor hop s⟩

/-- Settles O18: BIT writes the flags alone, Z from the conjunction and N and V from the byte's own bits. -/
theorem bitCopiesOperandBits : Obligations.BitCopiesOperandBits := by
  intro i s hop
  obtain ⟨m, ho, he⟩ := exec_bit hop s
  refine ⟨encodedAs_of_cells hop (by decide), m, ho, ?_⟩
  rw [he, bitTest_mem_eq, bitFlags_eq]

end Sys2Proof.Proofs
end

section
/-! SUPPORT. The shifts and rotates in numbers, in every form of their mnemonics (spec/43_shift_rotate.md R250 to R254). -/

namespace Sys2Proof.Machine

open Safety

/-- The four mnemonics, each with the change of a byte and the flags that it makes. -/
inductive ShiftOp : Op → (Byte → Flags → Byte × Flags) → Prop where
  | asl : ShiftOp .asl aslByte
  | lsr : ShiftOp .lsr lsrByte
  | rol : ShiftOp .rol rolByte
  | ror : ShiftOp .ror rorByte

/-- A shift is one read-modify-write of its operand, which is a location. -/
theorem exec_shift {i : Instr} {op : Op} {f : Byte → Flags → Byte × Flags} (hf : ShiftOp op f) (hop : i.op = op) (s : State) :
    ∃ l, i.operand = some (.loc l) ∧ exec i s = .next (readModifyWrite f l s) := by
  obtain ⟨_, _, ho, he, hm⟩ := exec_of_op hop s
  cases hf <;> cases hm <;> exact ⟨_, ho, he⟩

/-- The location is the form's own, from every state. -/
theorem exec_shift_at {i : Instr} {op : Op} {f : Byte → Flags → Byte × Flags} {l : Loc} (hf : ShiftOp op f)
    (hop : i.op = op) (ho : i.operand = some (.loc l)) (s : State) : exec i s = .next (readModifyWrite f l s) := by
  obtain ⟨l', ho', he⟩ := exec_shift hf hop s
  obtain rfl : l' = l := by simpa [ho] using ho'.symm
  exact he

/-- A list that has every cell of a mnemonic but the accumulator's has the encoding of each form on memory. -/
theorem encodedAs_of_mem_cells {i : Instr} {op : Op} {m : AddrMode} {listed : List (Byte × Mode)} (hop : i.op = op)
    (ho : i.operand = some (.loc (.mem m)))
    (h : ∀ b : Byte, ∀ c ∈ opcodeCell b, c.sample.op = op → c.sample.mode ≠ .acc → (b, c.sample.mode) ∈ listed) :
    EncodedAs i listed := by
  have hacc : i.mode ≠ .acc := by
    rw [Instr.mode, ho]
    cases m <;> simp [Operand.mode, AddrMode.mode]
  obtain ⟨c, hc, hcop, hmode⟩ := opcodeCell_op_mode i
  rw [EncodedAs, ← hmode]
  exact h i.opcode c hc (hcop.trans hop) (hmode ▸ hacc)

theorem shiftLeft_one_eq_ofNat (v : Byte) : v <<< 1 = BitVec.ofNat 8 (2 * v.toNat) := by
  apply BitVec.eq_of_toNat_eq
  rw [BitVec.toNat_shiftLeft, BitVec.toNat_ofNat, Nat.shiftLeft_eq, Nat.mul_comm]

theorem ushiftRight_one_eq_ofNat (v : Byte) : v >>> 1 = BitVec.ofNat 8 (v.toNat / 2) := by
  apply BitVec.eq_of_toNat_eq
  rw [BitVec.toNat_ushiftRight, BitVec.toNat_ofNat, Nat.shiftRight_eq_div_pow, Nat.mod_eq_of_lt (by omega)]

/-- The carry enters at the left shift's empty place, bit 0 (R253). -/
theorem shiftLeft_one_or_carry (v : Byte) (c : Bool) :
    v <<< 1 ||| (BitVec.ofBool c).zeroExtend 8 = BitVec.ofNat 8 (2 * v.toNat + c.toNat) := by
  have hdisjoint : v <<< 1 &&& (BitVec.ofBool c).zeroExtend 8 = 0#8 := by
    ext i
    cases i <;> simp
  have hcarry : (BitVec.ofBool c).zeroExtend 8 = BitVec.ofNat 8 c.toNat := by
    cases c <;> rfl
  rw [← BitVec.add_eq_or_of_and_eq_zero _ _ hdisjoint, shiftLeft_one_eq_ofNat, hcarry, BitVec.ofNat_add]

/-- The carry enters at the right shift's empty place, bit 7 (R254). -/
theorem ushiftRight_one_or_carry (v : Byte) (c : Bool) :
    v >>> 1 ||| (BitVec.ofBool c).zeroExtend 8 <<< 7 = BitVec.ofNat 8 (v.toNat / 2 + 128 * c.toNat) := by
  have hdisjoint : v >>> 1 &&& (BitVec.ofBool c).zeroExtend 8 <<< 7 = 0#8 := by
    ext i hi
    rcases (by omega : i < 7 ∨ i = 7) with h | rfl
    · simp [h]
    · simp
  have hcarry : (BitVec.ofBool c).zeroExtend 8 <<< 7 = BitVec.ofNat 8 (128 * c.toNat) := by
    cases c <;> rfl
  rw [← BitVec.add_eq_or_of_and_eq_zero _ _ hdisjoint, ushiftRight_one_eq_ofNat, hcarry, BitVec.ofNat_add]

/-- Bit 0 of a byte, in numbers. -/
theorem getLsbD_zero_eq (v : Byte) : v.getLsbD 0 = decide (v.toNat % 2 = 1) := by
  rw [BitVec.getLsbD, Nat.testBit_zero]

theorem setNZ_carry_eq (p : Flags) (c : Bool) (v : Byte) : setNZ { p with c := c } v = { flagsNZ p v with c := c } := by
  rw [setNZ_eq_flagsNZ]
  rfl

/-- R251 in numbers. -/
theorem aslByte_eq (v : Byte) (p : Flags) :
    aslByte v p = (BitVec.ofNat 8 (2 * v.toNat),
      { flagsNZ p (BitVec.ofNat 8 (2 * v.toNat)) with c := decide (128 ≤ v.toNat) }) := by
  rw [aslByte, shiftLeft_one_eq_ofNat, getLsbD_seven_eq, setNZ_carry_eq]

/-- R252 in numbers. -/
theorem lsrByte_eq (v : Byte) (p : Flags) :
    lsrByte v p = (BitVec.ofNat 8 (v.toNat / 2),
      { flagsNZ p (BitVec.ofNat 8 (v.toNat / 2)) with c := decide (v.toNat % 2 = 1) }) := by
  rw [lsrByte, ushiftRight_one_eq_ofNat, getLsbD_zero_eq, setNZ_carry_eq]

/-- R253 in numbers. -/
theorem rolByte_eq (v : Byte) (p : Flags) :
    rolByte v p = (BitVec.ofNat 8 (2 * v.toNat + p.c.toNat),
      { flagsNZ p (BitVec.ofNat 8 (2 * v.toNat + p.c.toNat)) with c := decide (128 ≤ v.toNat) }) := by
  rw [rolByte, shiftLeft_one_or_carry, getLsbD_seven_eq, setNZ_carry_eq]

/-- R254 in numbers. -/
theorem rorByte_eq (v : Byte) (p : Flags) :
    rorByte v p = (BitVec.ofNat 8 (v.toNat / 2 + 128 * p.c.toNat),
      { flagsNZ p (BitVec.ofNat 8 (v.toNat / 2 + 128 * p.c.toNat)) with c := decide (v.toNat % 2 = 1) }) := by
  rw [rorByte, ushiftRight_one_or_carry, getLsbD_zero_eq, setNZ_carry_eq]

/-- A read-modify-write on A changes A and the flags alone. -/
theorem readModifyWrite_acc_eq (f : Byte → Flags → Byte × Flags) (s : State) :
    readModifyWrite f .acc s = { s with a := (f s.a s.p).1, p := (f s.a s.p).2 } := rfl

/-- A shift on memory writes the shifted byte at the effective address, and the flags (R250). -/
theorem exec_shift_writesByte {i : Instr} {op : Op} {f : Byte → Flags → Byte × Flags} {m : AddrMode} {s : State} {v : Byte}
    {p : Flags} (hw : s.mem.wf = true) (hf : ShiftOp op f) (hop : i.op = op) (ho : i.operand = some (.loc (.mem m)))
    (hv : f (s.read (m.ea s)) s.p = (v, p)) :
    ∃ t, exec i s = .next t ∧ t = { s with mem := t.mem, p := p } ∧ WritesByte s t (m.ea s) v := by
  have heq := readModifyWrite_eq f m s
  have hwrites := readModifyWrite_writesByte hw f m
  rw [hv] at heq hwrites
  exact ⟨_, exec_shift_at hf hop ho s, heq, hwrites⟩

end Sys2Proof.Machine
end

section
/-! SUPPORT. A location that is read and written repeatedly (spec/30_encoding.md R124): what it holds after a store, and what
one store after another leaves. -/

namespace Sys2Proof.Machine.Memory

/-- The second of two stores at one address is the one that stays. -/
theorem store_store {m : Memory} (h : m.wf = true) {a : Nat} (ha : a < 65536) (v w : Byte) :
    (m.store a w).store a v = m.store a v := by
  have hw := store_wf h ha w
  refine eq_of_byteAt_eq (store_wf hw ha v) (store_wf h ha v) fun b _ => ?_
  by_cases hb : b = a
  · rw [hb, byteAt_store_eq hw, byteAt_store_eq h]
  · rw [byteAt_store_ne _ _ hb, byteAt_store_ne _ _ hb, byteAt_store_ne _ _ hb]

/-- Storing the byte that an address holds changes nothing. -/
theorem store_byteAt {m : Memory} (h : m.wf = true) {a : Nat} (ha : a < 65536) :
    m.store a (m.byteAt a) = m := by
  refine eq_of_byteAt_eq (store_wf h ha _) h fun b _ => ?_
  by_cases hb : b = a
  · rw [hb, byteAt_store_eq h]
  · rw [byteAt_store_ne _ _ hb]

end Sys2Proof.Machine.Memory

namespace Sys2Proof

open Machine

/-- The modes whose effective address depends on X alone, not on memory (R113, R114, R116, R117), and the accumulator. -/
def Mode.IsDirect (m : Mode) : Prop := m ∈ [Mode.acc, .zp, .zpX, .abs, .absX]

/-- A form of a direct mode resolves to the same address wherever X is the same, whatever memory holds. -/
theorem AddrMode.ea_of_isDirect {m : AddrMode} (h : m.mode.IsDirect) {s t : State} (hx : t.x = s.x) : m.ea t = m.ea s := by
  cases m with
  | zp | abs => rfl
  | zpX | absX => rw [ea, ea, hx]
  | zpY | absY | ind | indX | indY | rel => simp [Mode.IsDirect, mode] at h

theorem AddrMode.ea_setP (m : AddrMode) (s : State) (p : Flags) : m.ea (s.setP p) = m.ea s := by
  cases m <;> rfl

theorem cell_mode_mem_modes : ∀ b : Byte, ∀ c ∈ opcodeCell b, c.sample.mode ∈ c.sample.op.modes := by
  decide

/-- The mode of a form is one that the rule of its mnemonic lists. -/
theorem Instr.mode_mem_modes (i : Instr) : i.mode ∈ i.op.modes := by
  obtain ⟨c, hc, hop, hmode⟩ := opcodeCell_op_mode i
  rw [← hop, ← hmode]
  exact cell_mode_mem_modes i.opcode c hc

/-- The shifts have direct modes alone. -/
theorem Machine.ShiftOp.isDirect {i : Instr} {op : Op} {f : Byte → Flags → Byte × Flags} {l : Loc} (hf : ShiftOp op f)
    (hop : i.op = op) (ho : i.operand = some (.loc l)) : (Operand.loc l).mode.IsDirect := by
  have hm := i.mode_mem_modes
  rw [Instr.mode, ho, hop] at hm
  cases hf <;> exact hm

namespace Loc

variable (l : Loc) (s : State)

theorem value_setP (p : Flags) : l.value (s.setP p) = l.value s := by
  cases l with
  | acc => rfl
  | mem m => rw [value, value, AddrMode.ea_setP]; rfl

theorem put_setP (v : Byte) (p : Flags) : l.put v (s.setP p) = (l.put v s).setP p := by
  cases l with
  | acc => rfl
  | mem m => rw [put, put, AddrMode.ea_setP]; rfl

end Loc

namespace Loc

variable {l : Loc} {s : State}

/-- Storing a location's own value changes nothing. -/
theorem put_value (hw : s.mem.wf = true) : l.put (l.value s) s = s := by
  cases l with
  | acc => rfl
  | mem m => exact congrArg s.setMem (Memory.store_byteAt hw (m.ea s).isLt)

/-- A location of a direct mode holds what was stored there. -/
theorem value_put (hw : s.mem.wf = true) (hl : (Operand.loc l).mode.IsDirect) (v : Byte) : l.value (l.put v s) = v := by
  cases l with
  | acc => rfl
  | mem m =>
    rw [value, put, AddrMode.ea_of_isDirect hl (State.write_x s (m.ea s) v)]
    exact State.read_write_eq hw (m.ea s) v

/-- At a location of a direct mode, the last byte stored is the one that stays. -/
theorem put_put (hw : s.mem.wf = true) (hl : (Operand.loc l).mode.IsDirect) (v w : Byte) :
    l.put v (l.put w s) = l.put v s := by
  cases l with
  | acc => rfl
  | mem m =>
    rw [put, put, put, AddrMode.ea_of_isDirect hl (State.write_x s (m.ea s) w)]
    exact congrArg s.setMem (Memory.store_store hw (m.ea s).isLt v w)

end Loc

end Sys2Proof
end

section
/-! SUPPORT. Repeated rotates (spec/43_shift_rotate.md R253, R254): one read-modify-write after another, and C with the byte as
one word of nine bits. -/

namespace Sys2Proof.Machine

open Safety

/-! ## One read-modify-write after another -/

variable {f : Byte → Flags → Byte × Flags} {l : Loc} {s : State}

/-- A read-modify-write overwrites the byte and the flags that an earlier one left, and computes from these two alone. -/
theorem readModifyWrite_put (hw : s.mem.wf = true) (hl : (Operand.loc l).mode.IsDirect) (v : Byte) (p : Flags) :
    readModifyWrite f l ((l.put v s).setP p) = (l.put (f v p).1 s).setP (f v p).2 := by
  rw [readModifyWrite, Loc.value_setP, Loc.value_put hw hl, Loc.put_setP, Loc.put_put hw hl]
  rfl

/-! ## C and the byte as one word of nine bits -/

/-- C above the byte's bit 7. -/
def carryWord (q : Byte × Flags) : BitVec 9 := BitVec.cons q.2.c q.1

/-- The flags that no rotate writes, with the three that it does set to 0. -/
def otherFlags (q : Byte × Flags) : Flags := { q.2 with n := false, z := false, c := false }

/-- From `q` to `q'`, each bit of the nine is the one that stood `d` places above it, round the nine, and no flag changes but
N, Z and C. -/
structure Rotated (d : Nat) (q q' : Byte × Flags) : Prop where
  word : ∀ i < 9, (carryWord q').getLsbD i = (carryWord q).getLsbD ((i + d) % 9)
  flags : otherFlags q' = otherFlags q

theorem getLsbD_carryWord (q : Byte × Flags) (i : Nat) :
    (carryWord q).getLsbD i = if i = 8 then q.2.c else q.1.getLsbD i :=
  BitVec.getLsbD_cons q.2.c q.1 i

theorem getLsbD_rolByte (v : Byte) (p : Flags) {i : Nat} (hi : i < 8) :
    (rolByte v p).1.getLsbD i = if i = 0 then p.c else v.getLsbD (i - 1) := by
  have hv : (rolByte v p).1 = v <<< 1 ||| (BitVec.ofBool p.c).zeroExtend 8 := rfl
  rw [hv, BitVec.getLsbD_or, BitVec.getLsbD_shiftLeft, BitVec.zeroExtend, BitVec.getLsbD_setWidth, BitVec.getLsbD_ofBool]
  by_cases h0 : i = 0
  · simp [h0]
  · simp [h0, hi]

theorem getLsbD_rorByte (v : Byte) (p : Flags) {i : Nat} (hi : i < 8) :
    (rorByte v p).1.getLsbD i = if i = 7 then p.c else v.getLsbD (1 + i) := by
  have hv : (rorByte v p).1 = v >>> 1 ||| (BitVec.ofBool p.c).zeroExtend 8 <<< 7 := rfl
  rw [hv, BitVec.getLsbD_or, BitVec.getLsbD_ushiftRight, BitVec.getLsbD_shiftLeft, BitVec.zeroExtend,
    BitVec.getLsbD_setWidth, BitVec.getLsbD_ofBool]
  by_cases h7 : i = 7
  · simp [h7]
  · have hlow : i < 7 := by omega
    simp [h7, hlow]

/-- ROL takes each bit from one place below, which is eight places above: bit 0 from C and C from bit 7. -/
theorem rolByte_rotated (v : Byte) (p : Flags) : Rotated 8 (v, p) (rolByte v p) where
  word i hi := by
    rw [getLsbD_carryWord, getLsbD_carryWord]
    rcases (by omega : i = 0 ∨ 0 < i ∧ i < 8 ∨ i = 8) with rfl | ⟨h0, h8⟩ | rfl
    · exact getLsbD_rolByte v p (by decide)
    · have hplace : (i + 8) % 9 = i - 1 := by omega
      rw [if_neg (by omega), getLsbD_rolByte v p h8, hplace, if_neg (by omega), if_neg (by omega)]
    · rfl
  flags := rfl

/-- ROR takes each bit from one place above: bit 7 from C and C from bit 0. -/
theorem rorByte_rotated (v : Byte) (p : Flags) : Rotated 1 (v, p) (rorByte v p) where
  word i hi := by
    rw [getLsbD_carryWord, getLsbD_carryWord]
    rcases (by omega : i < 7 ∨ i = 7 ∨ i = 8) with h7 | rfl | rfl
    · have hplace : (i + 1) % 9 = 1 + i := by omega
      rw [if_neg (by omega), getLsbD_rorByte v p (by omega), hplace, if_neg (by omega), if_neg (by omega)]
    · exact getLsbD_rorByte v p (by decide)
    · rfl
  flags := rfl

namespace Rotated

variable {d e : Nat} {q q' q'' : Byte × Flags}

theorem refl (q : Byte × Flags) : Rotated 0 q q where
  word i hi := by rw [Nat.add_zero, Nat.mod_eq_of_lt hi]
  flags := rfl

theorem trans (h : Rotated d q q') (h' : Rotated e q' q'') : Rotated (e + d) q q'' where
  word i hi := by
    rw [h'.word i hi, h.word _ (Nat.mod_lt _ (by decide)), Nat.mod_add_mod, Nat.add_assoc]
  flags := h'.flags.trans h.flags

/-- Nine equal rotations take every bit of nine round to its own place. -/
theorem carryWord_eq (h : Rotated (9 * d) q q') : carryWord q' = carryWord q := by
  apply BitVec.eq_of_getLsbD_eq
  intro i hi
  rw [h.word i hi, Nat.add_mul_mod_self_left, Nat.mod_eq_of_lt hi]

theorem byte_eq (h : Rotated (9 * d) q q') : q'.1 = q.1 := by
  simpa only [carryWord, BitVec.setWidth_cons] using congrArg (BitVec.setWidth 8) h.carryWord_eq

theorem c_eq (h : Rotated (9 * d) q q') : q'.2.c = q.2.c := by
  simpa only [carryWord, BitVec.msb_cons] using congrArg BitVec.msb h.carryWord_eq

/-- The flags that no rotate writes stay at any rotation, and C comes round, so that N and Z alone are left to change. -/
theorem flags_eq (h : Rotated (9 * d) q q') : q'.2 = { q.2 with n := q'.2.n, z := q'.2.z } := by
  have hflags := h.flags
  simp only [otherFlags, Flags.mk.injEq] at hflags
  obtain ⟨-, hv, hb, hd, hi, -⟩ := hflags
  simp only [← hv, ← hb, ← hd, ← hi, ← h.c_eq]

end Rotated

/-! ## A rotate executed repeatedly -/

/-- Each execution rotates on from what the last one left. -/
theorem execTimes_put {i : Instr} {d : Nat} (he : ∀ s, exec i s = .next (readModifyWrite f l s))
    (hf : ∀ v p, Rotated d (v, p) (f v p)) (hw : s.mem.wf = true) (hl : (Operand.loc l).mode.IsDirect) (n : Nat) (v : Byte)
    (p : Flags) :
    ∃ q, execTimes i n ((l.put v s).setP p) = .next ((l.put q.1 s).setP q.2) ∧ Rotated (n * d) (v, p) q := by
  induction n generalizing v p with
  | zero => exact ⟨(v, p), rfl, (Nat.zero_mul d).symm ▸ .refl (v, p)⟩
  | succ n ih =>
    obtain ⟨q, hq, hrot⟩ := ih (f v p).1 (f v p).2
    refine ⟨q, ?_, Nat.succ_mul n d ▸ (hf v p).trans hrot⟩
    rw [execTimes, he, readModifyWrite_put hw hl]
    exact hq

/-- Nine rotates leave the state as it was but for N and Z. -/
theorem execTimes_rotate {i : Instr} {op : Op} {d : Nat} (hop : ShiftOp op f) (hi : i.op = op)
    (ho : i.operand = some (.loc l)) (hf : ∀ v p, Rotated d (v, p) (f v p)) (hw : s.mem.wf = true) :
    ∃ n z, execTimes i 9 s = .next (s.setP { s.p with n := n, z := z }) := by
  obtain ⟨q, hq, hrot⟩ := execTimes_put (exec_shift_at hop hi ho) hf hw (hop.isDirect hi ho) 9 (l.value s) s.p
  refine ⟨q.2.n, q.2.z, ?_⟩
  rw [hrot.byte_eq, hrot.flags_eq, Loc.put_value hw] at hq
  exact hq

end Sys2Proof.Machine
end

section
/-! The theorems that settle the statements about the shifts and rotates (spec/43_shift_rotate.md). -/

namespace Sys2Proof.Proofs

open Machine Safety

/-- Settles O20: each of the four is one read-modify-write, of the byte shifted in numbers. -/
theorem shiftsOfAMemoryByte : Obligations.ShiftsOfAMemoryByte := by
  intro i m s hw ho
  refine ⟨fun hop => ?asl, fun hop => ?lsr, fun hop => ?rol, fun hop => ?ror⟩
  case asl => exact ⟨encodedAs_of_mem_cells hop ho (by decide), exec_shift_writesByte hw .asl hop ho (aslByte_eq _ _)⟩
  case lsr => exact ⟨encodedAs_of_mem_cells hop ho (by decide), exec_shift_writesByte hw .lsr hop ho (lsrByte_eq _ _)⟩
  case rol => exact ⟨encodedAs_of_mem_cells hop ho (by decide), exec_shift_writesByte hw .rol hop ho (rolByte_eq _ _)⟩
  case ror => exact ⟨encodedAs_of_mem_cells hop ho (by decide), exec_shift_writesByte hw .ror hop ho (rorByte_eq _ _)⟩

/-- Settles O21: nine rotates take the nine bits of C and the operand once round. -/
theorem nineRotatesRestoreTheOperandAndCarry : Obligations.NineRotatesRestoreTheOperandAndCarry := by
  intro i s hw hop
  obtain ⟨l, ho, n, z, ht⟩ : ∃ l, i.operand = some (.loc l) ∧
      ∃ n z, execTimes i 9 s = .next (s.setP { s.p with n := n, z := z }) := by
    rcases hop with hop | hop
    · obtain ⟨l, ho, -⟩ := exec_shift .rol hop s
      exact ⟨l, ho, execTimes_rotate .rol hop ho rolByte_rotated hw⟩
    · obtain ⟨l, ho, -⟩ := exec_shift .ror hop s
      exact ⟨l, ho, execTimes_rotate .ror hop ho rorByte_rotated hw⟩
  exact ⟨l, _, ho, ht, l.value_setP s _, rfl, rfl, fun _ => rfl⟩

/-- Settles O19: each of the four writes A and the flags, with the byte shifted in numbers. -/
theorem shiftsOfTheAccumulator : Obligations.ShiftsOfTheAccumulator := by
  intro s
  refine ⟨rfl, rfl, rfl, rfl, ?asl, ?lsr, ?rol, ?ror⟩
  case asl => rw [exec_shift_at .asl rfl rfl, readModifyWrite_acc_eq, aslByte_eq]
  case lsr => rw [exec_shift_at .lsr rfl rfl, readModifyWrite_acc_eq, lsrByte_eq]
  case rol => rw [exec_shift_at .rol rfl rfl, readModifyWrite_acc_eq, rolByte_eq]
  case ror => rw [exec_shift_at .ror rfl rfl, readModifyWrite_acc_eq, rorByte_eq]

end Sys2Proof.Proofs
end

section
/-! SUPPORT. The loads and stores in every form of their mnemonics, the register results in numbers, and the cycles of a form
from its mnemonic and mode (spec/44_load_store_transfer.md R270 to R281, R510). -/

namespace Sys2Proof

open Machine Safety

/-! ## Cycles from the decoder's cells (R103, R510) -/

/-- What holds of the mnemonic, the mode and the timing in every cell of the matrix holds of every instruction's. -/
theorem Instr.of_cells {P : Op → Mode → Nat × Penalty → Prop}
    (h : ∀ b : Byte, ∀ c ∈ opcodeCell b, P c.sample.op c.sample.mode c.sample.timing) (i : Instr) :
    P i.op i.mode i.timing := by
  obtain ⟨c, hc, hop, hmode, htiming⟩ : ∃ c, opcodeCell i.opcode = some c ∧
      c.sample.op = i.op ∧ c.sample.mode = i.mode ∧ c.sample.timing = i.timing := by
    cases i <;> exact ⟨_, by simp only [Instr.opcode]; rfl, rfl, rfl, rfl⟩
  rw [← hop, ← hmode, ← htiming]
  exact h i.opcode c hc

/-- Without a penalty, the base cycles alone. -/
theorem Instr.cycles_of_no_penalty {i : Instr} {n : Nat} (ht : i.timing = (n, .none)) (s : State) : i.cycles s = n := by
  simp [Instr.cycles, ht, cycleCount]

/-- With the page penalty, one more cycle when the operand's address crosses a page. -/
theorem Instr.cycles_of_page_penalty {i : Instr} {n : Nat} {m : AddrMode} (ht : i.timing = (n, .page))
    (ho : i.operand = some (.loc (.mem m))) (s : State) : i.cycles s = n + (m.crossed s).toNat := by
  cases hcross : m.crossed s <;> simp [Instr.cycles, Instr.crossed, ht, ho, hcross, cycleCount]

/-- The indexed forms of the loads have the page penalty. -/
theorem load_timing (i : Instr) : (i.op = .lda ∨ i.op = .ldx ∨ i.op = .ldy) →
    (i.mode = .absX ∨ i.mode = .absY → i.timing = (4, .page)) ∧ (i.mode = .indY → i.timing = (5, .page)) :=
  Instr.of_cells (P := fun op mode timing => (op = .lda ∨ op = .ldx ∨ op = .ldy) →
    (mode = .absX ∨ mode = .absY → timing = (4, .page)) ∧ (mode = .indY → timing = (5, .page))) (by decide) i

/-- The indexed forms of the stores have no penalty. -/
theorem store_timing (i : Instr) : (i.op = .sta ∨ i.op = .stx ∨ i.op = .sty) →
    (i.mode = .absX ∨ i.mode = .absY → i.timing = (5, .none)) ∧ (i.mode = .indY → i.timing = (6, .none)) :=
  Instr.of_cells (P := fun op mode timing => (op = .sta ∨ op = .stx ∨ op = .sty) →
    (mode = .absX ∨ mode = .absY → timing = (5, .none)) ∧ (mode = .indY → timing = (6, .none))) (by decide) i

namespace Machine

/-! ## Loads -/

theorem resultToX_eq (v : Byte) (s : State) : resultToX v s = { s with x := v, p := flagsNZ s.p v } := by
  rw [← setNZ_eq_flagsNZ]
  rfl

theorem resultToY_eq (v : Byte) (s : State) : resultToY v s = { s with y := v, p := flagsNZ s.p v } := by
  rw [← setNZ_eq_flagsNZ]
  rfl

/-- The three loads, each with the write of its register. -/
inductive LoadOp : Op → (Byte → State → State) → Prop where
  | lda : LoadOp .lda resultToA
  | ldx : LoadOp .ldx resultToX
  | ldy : LoadOp .ldy resultToY

theorem LoadOp.of_op {op : Op} (h : op = .lda ∨ op = .ldx ∨ op = .ldy) : ∃ load, LoadOp op load := by
  rcases h with rfl | rfl | rfl
  · exact ⟨_, .lda⟩
  · exact ⟨_, .ldx⟩
  · exact ⟨_, .ldy⟩

/-- A load writes the value of its operand to its register. -/
theorem exec_load {i : Instr} {op : Op} {load : Byte → State → State} (hl : LoadOp op load) (hop : i.op = op) (s : State) :
    ∃ o, i.operand = some o ∧ exec i s = .next (load (o.value s) s) := by
  obtain ⟨_, _, ho, he, hm⟩ := exec_of_op hop s
  cases hl <;> cases hm <;> exact ⟨_, ho, he⟩

/-- The operand is the form's own. -/
theorem exec_load_at {i : Instr} {op : Op} {load : Byte → State → State} {o : Operand} (hl : LoadOp op load)
    (hop : i.op = op) (ho : i.operand = some o) (s : State) : exec i s = .next (load (o.value s) s) := by
  obtain ⟨o', ho', he⟩ := exec_load hl hop s
  obtain rfl : o' = o := Option.some.inj (ho'.symm.trans ho)
  exact he

/-! ## Stores -/

/-- The three stores, each with the register it stores. -/
inductive StoreOp : Op → (State → Byte) → Prop where
  | sta : StoreOp .sta State.a
  | stx : StoreOp .stx State.x
  | sty : StoreOp .sty State.y

theorem StoreOp.of_op {op : Op} (h : op = .sta ∨ op = .stx ∨ op = .sty) : ∃ reg, StoreOp op reg := by
  rcases h with rfl | rfl | rfl
  · exact ⟨_, .sta⟩
  · exact ⟨_, .stx⟩
  · exact ⟨_, .sty⟩

/-- Each mnemonic stores one register. -/
theorem StoreOp.unique {op : Op} {reg reg' : State → Byte} (h : StoreOp op reg) (h' : StoreOp op reg') : reg = reg' := by
  cases h <;> cases h' <;> rfl

/-- A store writes its register at its operand's address. -/
theorem exec_store {i : Instr} {op : Op} {reg : State → Byte} (hr : StoreOp op reg) (hop : i.op = op) (s : State) :
    ∃ m, i.operand = some (.loc (.mem m)) ∧ exec i s = .next (storeByte (reg s) m s) := by
  obtain ⟨_, _, ho, he, hm⟩ := exec_of_op hop s
  cases hr <;> cases hm <;> exact ⟨_, ho, he⟩

theorem storeByte_writesByte {s : State} (h : s.mem.wf = true) (v : Byte) (m : AddrMode) :
    WritesByte s (storeByte v m s) (m.ea s) v :=
  State.write_writesByte h (m.ea s) v

/-- A store changes memory alone. -/
theorem storeByte_eq (v : Byte) (m : AddrMode) (s : State) : storeByte v m s = { s with mem := (storeByte v m s).mem } := rfl

end Machine

end Sys2Proof
end

section
/-! The theorems that settle the statements about the loads, stores and transfers (spec/44_load_store_transfer.md). -/

namespace Sys2Proof.Proofs

open Machine Safety

/-- Settles O23: each store is one write of its register at the operand's address, with no penalty in any cell of the matrix. -/
theorem storesWriteOneByteAndNoFlag : Obligations.StoresWriteOneByteAndNoFlag := by
  intro i s hw hop
  obtain ⟨reg, hr⟩ := StoreOp.of_op hop
  obtain ⟨m, ho, he⟩ := exec_store hr rfl s
  obtain ⟨habs, hindY⟩ := store_timing i hop
  have hwrites : ∀ {reg'}, StoreOp i.op reg' → WritesByte s (storeByte (reg s) m s) (m.ea s) (reg' s) :=
    fun hr' => hr.unique hr' ▸ storeByte_writesByte hw (reg s) m
  refine ⟨m, _, ho, he, storeByte_eq _ m s, fun hmode => Instr.cycles_of_no_penalty (habs hmode) s,
    fun hmode => Instr.cycles_of_no_penalty (hindY hmode) s, fun hop => ?sta, fun hop => ?stx, fun hop => ?sty⟩
  case sta => exact ⟨encodedAs_of_cells hop (by decide), hwrites (hop ▸ .sta)⟩
  case stx => exact ⟨encodedAs_of_cells hop (by decide), hwrites (hop ▸ .stx)⟩
  case sty => exact ⟨encodedAs_of_cells hop (by decide), hwrites (hop ▸ .sty)⟩

/-- Settles O22: each load is one write of its register with N and Z, and its indexed forms have the page penalty. -/
theorem loadsWriteARegisterAndNZ : Obligations.LoadsWriteARegisterAndNZ := by
  intro i s hop
  obtain ⟨load, hl⟩ := LoadOp.of_op hop
  obtain ⟨o, ho, -⟩ := exec_load hl rfl s
  obtain ⟨habs, hindY⟩ := load_timing i hop
  refine ⟨o, ho, fun hop => ⟨encodedAs_of_cells hop (by decide), ?lda⟩,
    fun hop => ⟨encodedAs_of_cells hop (by decide), ?ldx⟩, fun hop => ⟨encodedAs_of_cells hop (by decide), ?ldy⟩,
    fun m hm => ?cycles⟩
  case lda => rw [exec_load_at .lda hop ho, resultToA_eq]
  case ldx => rw [exec_load_at .ldx hop ho, resultToX_eq]
  case ldy => rw [exec_load_at .ldy hop ho, resultToY_eq]
  case cycles =>
    rw [hm] at ho
    exact ⟨fun hmode => Instr.cycles_of_page_penalty (habs hmode) ho s,
      fun hmode => Instr.cycles_of_page_penalty (hindY hmode) ho s⟩

/-- Settles O24: each transfer is the write of one register's value to another, and only TXS leaves the flags. -/
theorem transfersMoveARegister : Obligations.TransfersMoveARegister := by
  intro s
  refine ⟨rfl, rfl, rfl, rfl, rfl, rfl, ?tax, ?tay, ?txa, ?tya, ?tsx, ?txs⟩
  case tax => exact congrArg Host.Outcome.next (resultToX_eq s.a s)
  case tay => exact congrArg Host.Outcome.next (resultToY_eq s.a s)
  case txa => exact congrArg Host.Outcome.next (resultToA_eq s.x s)
  case tya => exact congrArg Host.Outcome.next (resultToA_eq s.y s)
  case tsx => exact congrArg Host.Outcome.next (resultToX_eq s.sp s)
  case txs => rfl

end Sys2Proof.Proofs
end

section
/-! SUPPORT. The compares in every form of their mnemonics, and their flags in numbers (spec/45_compare.md R300 to R303). -/

namespace Sys2Proof.Machine

open Safety

/-- R300 in numbers. -/
theorem compareFlags_eq (r m : Byte) (p : Flags) :
    compareFlags r m p =
      { p with c := decide (m.toNat ≤ r.toNat), z := decide (r.toNat = m.toNat),
               n := decide (128 ≤ (r.toNat + 256 - m.toNat) % 256) } := by
  have hdiff : (r - m).toNat = (r.toNat + 256 - m.toNat) % 256 := by
    rw [BitVec.toNat_sub]
    omega
  have hz : (r == m) = decide (r.toNat = m.toNat) := by
    rw [Bool.beq_eq_decide_eq]
    exact decide_eq_decide.mpr BitVec.toNat_inj.symm
  rw [compareFlags, getLsbD_seven_eq, hdiff, hz]

/-- A compare changes the flags alone. -/
theorem compareWith_eq (r : Byte) (o : Operand) (s : State) :
    compareWith r o s = { s with p := compareFlags r (o.value s) s.p } := rfl

/-- The three compares, each with the register that it compares. -/
inductive CompareOp : Op → (State → Byte) → Prop where
  | cmp : CompareOp .cmp State.a
  | cpx : CompareOp .cpx State.x
  | cpy : CompareOp .cpy State.y

theorem CompareOp.of_op {op : Op} (h : op = .cmp ∨ op = .cpx ∨ op = .cpy) : ∃ reg, CompareOp op reg := by
  rcases h with rfl | rfl | rfl
  · exact ⟨_, .cmp⟩
  · exact ⟨_, .cpx⟩
  · exact ⟨_, .cpy⟩

/-- A compare compares its register with the value of its operand. -/
theorem exec_compare {i : Instr} {op : Op} {reg : State → Byte} (hr : CompareOp op reg) (hop : i.op = op) (s : State) :
    ∃ o, i.operand = some o ∧ exec i s = .next (compareWith (reg s) o s) := by
  obtain ⟨_, _, ho, he, hm⟩ := exec_of_op hop s
  cases hr <;> cases hm <;> exact ⟨_, ho, he⟩

/-- The operand is the form's own. -/
theorem exec_compare_at {i : Instr} {op : Op} {reg : State → Byte} {o : Operand} (hr : CompareOp op reg) (hop : i.op = op)
    (ho : i.operand = some o) (s : State) : exec i s = .next (compareWith (reg s) o s) := by
  obtain ⟨o', ho', he⟩ := exec_compare hr hop s
  obtain rfl : o' = o := Option.some.inj (ho'.symm.trans ho)
  exact he

end Sys2Proof.Machine
end

section
/-! The theorem that settles the statement about the compares (spec/45_compare.md). -/

namespace Sys2Proof.Proofs

open Machine Safety

/-- Settles O25: each compare is one write of the flags of R300, in all forms of the decoder's cells. -/
theorem comparesSetFlagsOnly : Obligations.ComparesSetFlagsOnly := by
  intro i s hop
  obtain ⟨reg, hr⟩ := CompareOp.of_op hop
  obtain ⟨o, ho, -⟩ := exec_compare hr rfl s
  refine ⟨o, ho, fun hop => ⟨encodedAs_of_cells hop (by decide), ?cmp⟩,
    fun hop => ⟨encodedAs_of_cells hop (by decide), ?cpx⟩, fun hop => ⟨encodedAs_of_cells hop (by decide), ?cpy⟩⟩
  case cmp => rw [exec_compare_at .cmp hop ho, compareWith_eq, compareFlags_eq]
  case cpx => rw [exec_compare_at .cpx hop ho, compareWith_eq, compareFlags_eq]
  case cpy => rw [exec_compare_at .cpy hop ho, compareWith_eq, compareFlags_eq]

end Sys2Proof.Proofs
end

section
/-! SUPPORT. The branches, said once for the mnemonics that test a condition (spec/46_branch.md R320 to R328): encoding, effect
and cycles (R510). -/

namespace Sys2Proof

open Machine

/-- An instruction with a displacement is two bytes long: its opcode and the displacement (R100). -/
theorem encode_of_rel {i : Instr} {r : Byte} (ho : i.operand = some (.loc (.mem (.rel r)))) : encode i = [i.opcode, r] := by
  simp only [encode, ho, Operand.bytes, AddrMode.bytes]

/-- With the branch penalty, one more cycle when the branch is taken, and another when its target is in another page. -/
theorem Instr.cycles_of_branch_penalty {i : Instr} {n : Nat} (ht : i.timing = (n, .branch)) (s : State) :
    i.cycles s = n + (i.taken s).toNat + (i.taken s && i.crossed s).toNat := by
  cases htaken : i.taken s <;> cases hcross : i.crossed s <;> simp [Instr.cycles, ht, htaken, hcross, cycleCount]

/-- The mnemonics that test a condition have the branch penalty. -/
theorem branch_timing (i : Instr) : (conditionOf i.op).isSome → i.timing = (2, .branch) :=
  Instr.of_cells (P := fun op _ timing => (conditionOf op).isSome → timing = (2, .branch)) (by decide) i

theorem Instr.taken_of_condition {i : Instr} {cond : Condition} (hc : conditionOf i.op = some cond) (s : State) :
    i.taken s = cond.holds s.p := by
  simp only [Instr.taken, hc]

/-- A displacement's page crossing compares the next instruction's address and the branch target (R122, R123). -/
theorem Instr.crossed_of_rel {i : Instr} {r : Byte} (ho : i.operand = some (.loc (.mem (.rel r)))) (s : State) :
    i.crossed s = decide (s.pc.toNat / 256 ≠ (s.pc + r.signExtend 16).toNat / 256) := by
  simp only [Instr.crossed, ho]
  exact AddrMode.crossed_of_base rfl

namespace Machine

/-- A branch changes PC alone. -/
theorem branch_eq (cond : Condition) (r : Byte) (s : State) :
    branch cond r s = { s with pc := if cond.holds s.p then s.pc + r.signExtend 16 else s.pc } := rfl

/-- A mnemonic that tests a condition branches on it, by the displacement that is its operand. -/
theorem Meaning.eq_branch {s t : State} {op : Op} {o : Option Operand} {cond : Condition} (h : Meaning s op o t)
    (hc : conditionOf op = some cond) : ∃ r, o = some (.loc (.mem (.rel r))) ∧ t = branch cond r s := by
  cases h with
  | bpl r | bmi r | bvc r | bvs r | bcc r | bcs r | bne r | beq r =>
    obtain rfl := Option.some.inj hc
    exact ⟨r, rfl, rfl⟩
  | _ => cases hc

theorem exec_branch {i : Instr} {r : Byte} {cond : Condition} (hc : conditionOf i.op = some cond)
    (ho : i.operand = some (.loc (.mem (.rel r)))) (s : State) : exec i s = .next (branch cond r s) := by
  obtain ⟨_, t, ho', ht, hm⟩ := exec_of_op rfl s
  obtain ⟨r', hr', rfl⟩ := hm.eq_branch hc
  obtain rfl : r = r' := by simpa [ho, hr'] using ho'
  exact ht

end Machine

/-- The base, `taken` and `crossed` of R510 put together for a branch (R320). -/
theorem Instr.cycles_of_condition {i : Instr} {r : Byte} {cond : Condition} (hc : conditionOf i.op = some cond)
    (ho : i.operand = some (.loc (.mem (.rel r)))) (s : State) :
    i.cycles s = if cond.holds s.p then
      (if (s.pc + r.signExtend 16).toNat / 256 = s.pc.toNat / 256 then 3 else 4) else 2 := by
  have ht : i.timing = (2, .branch) := branch_timing i (by rw [hc]; rfl)
  rw [Instr.cycles_of_branch_penalty ht, Instr.taken_of_condition hc, Instr.crossed_of_rel ho]
  by_cases hpage : (s.pc + r.signExtend 16).toNat / 256 = s.pc.toNat / 256
  · rw [if_pos hpage, decide_eq_false (not_not_intro hpage.symm)]
    cases cond.holds s.p <;> rfl
  · rw [if_neg hpage, decide_eq_true (Ne.symm hpage)]
    cases cond.holds s.p <;> rfl

/-- Encoding, effect and cycles of an instruction that branches on a condition (R320). -/
theorem branch_encode_exec_cycles {i : Instr} {opcode r : Byte} {cond : Condition} (hb : i.opcode = opcode)
    (hc : conditionOf i.op = some cond) (ho : i.operand = some (.loc (.mem (.rel r)))) (s : State) :
    encode i = [opcode, r] ∧
    exec i s = .next { s with pc := if cond.holds s.p then s.pc + r.signExtend 16 else s.pc } ∧
    i.cycles s = if cond.holds s.p then
      (if (s.pc + r.signExtend 16).toNat / 256 = s.pc.toNat / 256 then 3 else 4) else 2 :=
  ⟨hb ▸ encode_of_rel ho, exec_branch hc ho s, Instr.cycles_of_condition hc ho s⟩

end Sys2Proof
end

section
/-! The theorem that settles the statement about the branches (spec/46_branch.md). -/

namespace Sys2Proof.Proofs

open Machine

/-- Settles O26: the eight mnemonics, each with its opcode and its condition. -/
theorem branchesFollowTheirCondition : Obligations.BranchesFollowTheirCondition := by
  intro s r branches
  exact ⟨branch_encode_exec_cycles (cond := .plus) rfl rfl rfl s,
    branch_encode_exec_cycles (cond := .minus) rfl rfl rfl s,
    branch_encode_exec_cycles (cond := .overflowClear) rfl rfl rfl s,
    branch_encode_exec_cycles (cond := .overflowSet) rfl rfl rfl s,
    branch_encode_exec_cycles (cond := .carryClear) rfl rfl rfl s,
    branch_encode_exec_cycles (cond := .carrySet) rfl rfl rfl s,
    branch_encode_exec_cycles (cond := .notEqual) rfl rfl rfl s,
    branch_encode_exec_cycles (cond := .equal) rfl rfl rfl s⟩

end Sys2Proof.Proofs
end

section
/-! SUPPORT. The pushes and pulls of A and of the status byte, and the flags that a status byte holds, in numbers
(spec/47_stack.md R340 to R343). -/

namespace Sys2Proof.Machine

open Safety

/-! ## The effects (R340 to R343) -/

theorem exec_pha (s : State) : exec .pha s = .next (s.push s.a) := rfl

theorem exec_php (s : State) : exec .php s = .next (s.push (packP s.p true)) := rfl

theorem exec_pla (s : State) : exec .pla s = .next (resultToA s.pull.1 s.pull.2) := rfl

theorem exec_plp (s : State) : exec .plp s = .next (s.pull.2.setP (unpackP s.pull.1 s.p)) := rfl

/-- What a push of any byte answers: S and one byte of the stack change (R75). -/
theorem exec_push_writesByte {i : Instr} {s : State} {v : Byte} (hw : s.mem.wf = true) (he : exec i s = .next (s.push v)) :
    ∃ t, exec i s = .next t ∧ t = { s with sp := s.sp - 1#8, mem := t.mem } ∧ WritesByte s t (stackAddr s.sp) v :=
  ⟨s.push v, he, s.push_eq v, State.push_writesByte hw v⟩

/-! ## The status byte (R38) -/

theorem getLsbD_eq_decide_div_mod (v : Byte) (k : Nat) : v.getLsbD k = decide (v.toNat / 2 ^ k % 2 = 1) := by
  rw [BitVec.getLsbD, Nat.testBit_eq_decide_div_mod_eq]

/-- R38 in numbers: six bits of the byte are flags, and B stays. -/
theorem unpackP_eq (v : Byte) (p : Flags) :
    unpackP v p = ⟨decide (v.toNat / 128 % 2 = 1), decide (v.toNat / 64 % 2 = 1), p.b, decide (v.toNat / 8 % 2 = 1),
      decide (v.toNat / 4 % 2 = 1), decide (v.toNat / 2 % 2 = 1), decide (v.toNat % 2 = 1)⟩ := by
  simp only [unpackP, getLsbD_eq_decide_div_mod, Nat.reducePow, Nat.div_one]

end Sys2Proof.Machine
end

section
/-! The theorems that settle the statements about the pushes and pulls (spec/47_stack.md). -/

namespace Sys2Proof.Proofs

open Machine Safety

/-- Settles O31: each of the two is one push, of A or of the status byte with B = 1. -/
theorem pushesOfAAndStatus : Obligations.PushesOfAAndStatus := by
  intro s hw
  exact ⟨rfl, rfl, exec_push_writesByte hw (exec_pha s), exec_push_writesByte hw (exec_php s)⟩

/-- Settles O32: each of the two is one pull, and the pulled byte goes to A with N and Z, or to the flags bit by bit. -/
theorem pullsOfAAndStatus : Obligations.PullsOfAAndStatus := by
  intro s v
  refine ⟨rfl, rfl, ?pla, ?plp⟩
  case pla => rw [exec_pla, State.pull_eq, resultToA_eq]
  case plp =>
    rw [exec_plp, State.pull_eq, unpackP_eq]
    rfl

end Sys2Proof.Proofs
end

section
/-! SUPPORT. The jumps, the subroutine call and the return from it, each as one change of the state, and the two stack bytes that
the call leaves for the return (spec/48_jump_subroutine.md R360 to R362). -/

namespace Sys2Proof.Machine

/-! ## The effects (R360 to R362) -/

theorem exec_jmpAbs (a : Word) (s : State) : exec (.jmpAbs a) s = .next (jump (.abs a) s) := rfl

theorem exec_jmpInd (ptr : Word) (s : State) : exec (.jmpInd ptr) s = .next (jump (.ind ptr) s) := rfl

theorem exec_jsrAbs (a : Word) (s : State) : exec (.jsrAbs a) s = .next (callSubroutine (.abs a) s) := rfl

theorem exec_rts (s : State) : exec .rts s = .next (returnFromSubroutine s) := rfl

/-- A jump changes PC alone. -/
theorem jump_eq (m : AddrMode) (s : State) : jump m s = { s with pc := m.ea s } := rfl

/-- A call changes PC, S and memory. -/
theorem callSubroutine_eq (m : AddrMode) (s : State) :
    callSubroutine m s = { s with pc := m.ea s, sp := s.sp - 2#8, mem := (callSubroutine m s).mem } := by
  rw [← sub_one_sub_one]
  rfl

/-- A return changes PC and S. -/
theorem returnFromSubroutine_eq (s : State) :
    returnFromSubroutine s =
      { s with pc := wordOf (s.read (stackAddr (s.sp + 1#8))) (s.read (stackAddr (s.sp + 2#8))) + 1#16,
               sp := s.sp + 2#8 } := by
  rw [← add_one_add_one]
  rfl

/-! ## The address that a call pushes and a return pulls -/

/-- The address before a word, in numbers: before 0 comes 65535. -/
theorem word_sub_one_toNat (w : Word) : (w - 1#16).toNat = (w.toNat + 65535) % 65536 := by
  rw [BitVec.toNat_sub, Nat.add_comm]
  rfl

/-- The address after the word of two bytes, in numbers. -/
theorem wordOf_add_one_toNat (lo hi : Byte) : (wordOf lo hi + 1#16).toNat = (256 * hi.toNat + lo.toNat + 1) % 65536 := by
  rw [BitVec.toNat_add, wordOf_toNat]
  rfl

section call
variable {s : State} (hw : s.mem.wf = true) (m : AddrMode)
include hw

theorem callSubroutine_wf : (callSubroutine m s).mem.wf = true := by
  rw [callSubroutine_mem]
  exact State.push_wf (State.push_wf hw _) _

/-- The low byte, pushed last, is in the byte below the first. -/
theorem callSubroutine_read_low : (callSubroutine m s).read (stackAddr (s.sp - 1#8)) = loByte (s.pc - 1#16) := by
  rw [State.read_of_mem_eq (callSubroutine_mem m s), ← State.push_sp s (hiByte (s.pc - 1#16)),
    State.read_push_eq (State.push_wf hw _)]

/-- The high byte, pushed first, is still there after the second push. -/
theorem callSubroutine_read_high : (callSubroutine m s).read (stackAddr s.sp) = hiByte (s.pc - 1#16) := by
  obtain ⟨hne, -, -⟩ := stackAddr_sub_ne s.sp
  rw [State.read_of_mem_eq (callSubroutine_mem m s), State.read_push_ne _ _ hne, State.read_push_eq hw]

/-- A return right after a call pulls the address that the call pushed. -/
theorem returnFromSubroutine_callSubroutine :
    returnFromSubroutine (callSubroutine m s) = { s with mem := (callSubroutine m s).mem } := by
  obtain ⟨hlow, hhigh⟩ := sub_two_add s.sp
  rw [returnFromSubroutine_eq, callSubroutine_sp, sub_one_sub_one, hlow, hhigh, callSubroutine_read_low hw,
    callSubroutine_read_high hw, wordOf_loByte_hiByte, BitVec.sub_add_cancel]
  rfl

end call

end Sys2Proof.Machine
end

section
/-! The theorems that settle the statements about the jumps and subroutines (spec/48_jump_subroutine.md). -/

namespace Sys2Proof.Proofs

open Machine

/-- Settles O28: the two pushes leave the high and the low byte of PC - 1. -/
theorem jsrPushesItsLastByteAddress : Obligations.JsrPushesItsLastByteAddress := by
  intro s a hw ret
  refine ⟨rfl, _, exec_jsrAbs a s, callSubroutine_eq _ s, callSubroutine_wf hw _, ?high, ?low,
    fun _ h0 h1 => callSubroutine_read _ s h0 h1⟩
  case high =>
    rw [callSubroutine_read_high hw, hiByte_toNat, word_sub_one_toNat]
    omega
  case low =>
    rw [callSubroutine_read_low hw, loByte_toNat, word_sub_one_toNat]
    omega

/-- Settles O30: the return undoes the call but for the two stack bytes. -/
theorem rtsAfterJsrResumesAfterTheCall : Obligations.RtsAfterJsrResumesAfterTheCall := by
  intro s a hw
  refine ⟨callSubroutine (.abs a) s, exec_jsrAbs a s, ?_⟩
  rw [exec_rts, returnFromSubroutine_callSubroutine hw]

/-- Settles O27: both forms are the jump to their effective address, the indirect one's read within the pointer's page. -/
theorem jumpsLoadPc : Obligations.JumpsLoadPc := by
  intro s a
  exact ⟨rfl, rfl, exec_jmpAbs a s, _, exec_jmpInd a s, jump_eq _ s, s.read16SamePage_toNat a⟩

/-- Settles O29: the two pulled bytes make a word, low byte first, and PC is the word after it. -/
theorem rtsReturnsPastThePulledAddress : Obligations.RtsReturnsPastThePulledAddress := by
  intro s
  refine ⟨rfl, _, exec_rts s, ?state, ?pc⟩
  case state => rw [returnFromSubroutine_eq]
  case pc => rw [returnFromSubroutine_eq, wordOf_add_one_toNat]

end Sys2Proof.Proofs
end

section
/-! SUPPORT. The entry that NMI, IRQ and BRK share, as one change of the state, the three stack bytes it leaves, and the return
from it (spec/60_exceptions.md R405, spec/49_flags_break.md R388, R389, R410). -/

namespace Sys2Proof.Machine

open Safety

/-! ## The vectors (R401, R407) -/

/-- No push can reach the word at the address: neither of its bytes is in the stack page. -/
def OutsideStackPage (a : Word) : Prop := hiByte a ≠ 0x01#8 ∧ hiByte (a + 1#16) ≠ 0x01#8

theorem outsideStackPage_nmiVector : OutsideStackPage Config.nmiVector := by
  unfold OutsideStackPage
  decide

theorem outsideStackPage_irqVector : OutsideStackPage Config.irqVector := by
  unfold OutsideStackPage
  decide

theorem State.irqOrHijackedVector_eq (s : State) :
    s.irqOrHijackedVector = if s.nmiEarly then 0xFFFA#16 else 0xFFFE#16 := rfl

theorem State.outsideStackPage_irqOrHijackedVector (s : State) : OutsideStackPage s.irqOrHijackedVector := by
  rw [irqOrHijackedVector]
  split
  · exact outsideStackPage_nmiVector
  · exact outsideStackPage_irqVector

namespace State

/-! ## The entry (R405) -/

/-- An entry changes S, memory, I and PC. -/
theorem interruptEntry_eq (s : State) (b : Bool) {vec : Word} (hvec : OutsideStackPage vec) :
    s.interruptEntry vec b =
      { s with sp := s.sp - 3#8, mem := (s.interruptEntry vec b).mem, p := { s.p with i := true }, pc := s.read16 vec } := by
  obtain ⟨h0, h1⟩ := hvec
  rw [← interruptEntry_pc_of_vector s b h0 h1, ← sub_one_sub_one_sub_one]
  apply State.ext <;> simp

/-- An entry pushes PC, high byte first, and then the status byte. -/
theorem interruptEntry_pushesThree {s : State} (hw : s.mem.wf = true) (vec : Word) (b : Bool) :
    PushesThree s (s.interruptEntry vec b) (hiByte s.pc) (loByte s.pc) (packP s.p b) := by
  obtain ⟨h01, h02, h12⟩ := stackAddr_sub_ne s.sp
  refine ⟨interruptEntry_wf hw vec b, ?_, ?_, ?_, fun k h0 h1 h2 => ?_⟩ <;> rw [read_interruptEntry hw]
  · rw [if_neg h02, if_neg h01, if_pos rfl]
  · rw [if_neg h12, if_pos rfl]
  · rw [if_pos rfl]
  · rw [if_neg h2, if_neg h1, if_neg h0]

/-- The pushed bytes of PC, in numbers. -/
theorem interruptEntry_pushesThree_ofNat {s : State} (hw : s.mem.wf = true) (vec : Word) (b : Bool) :
    PushesThree s (s.interruptEntry vec b) (BitVec.ofNat 8 (s.pc.toNat / 256)) (BitVec.ofNat 8 s.pc.toNat) (packP s.p b) := by
  rw [← hiByte_eq_ofNat, ← loByte_eq_ofNat]
  exact interruptEntry_pushesThree hw vec b

/-! ## BRK's entry (R388) -/

theorem softwareBreak_eq (s : State) :
    s.softwareBreak =
      { s with sp := s.sp - 3#8, mem := s.softwareBreak.mem, p := { s.p with i := true },
               pc := s.read16 s.irqOrHijackedVector } := by
  rw [softwareBreak, interruptEntry_eq _ _ s.outsideStackPage_irqOrHijackedVector]
  rfl

/-! ## The return (R389, R410) -/

/-- A return from an interrupt changes S, PC and the flags. -/
theorem returnFromInterrupt_eq (s : State) :
    s.returnFromInterrupt =
      { s with sp := s.sp + 3#8,
               pc := wordOf (s.read (stackAddr (s.sp + 2#8))) (s.read (stackAddr (s.sp + 3#8))),
               p := unpackP (s.read (stackAddr (s.sp + 1#8))) s.p } := by
  rw [← add_one_add_one, ← add_one_add_one_add_one]
  rfl

/-- A return right after an entry undoes it but for the three stack bytes: the pulled status byte holds the I that the entry
set over. -/
theorem returnFromInterrupt_interruptEntry {s : State} (hw : s.mem.wf = true) (vec : Word) (b : Bool) :
    (s.interruptEntry vec b).returnFromInterrupt = { s with mem := (s.interruptEntry vec b).mem } := by
  obtain ⟨-, hhigh, hlow, hstatus, -⟩ := interruptEntry_pushesThree hw vec b
  obtain ⟨h1, h2, h3⟩ := sub_three_add s.sp
  rw [returnFromInterrupt_eq, interruptEntry_sp, sub_one_sub_one_sub_one, h1, h2, h3, hhigh, hlow, hstatus,
    wordOf_loByte_hiByte, unpackP_packP]
  simp

end State

/-! ## The effects of BRK and RTI -/

theorem exec_brk (s : State) : exec .brk s = .next s.softwareBreak := rfl

theorem exec_rti (s : State) : exec .rti s = .next s.returnFromInterrupt := rfl

end Sys2Proof.Machine
end

section
/-! The theorems that settle the statements about the flag instructions, NOP, BRK and RTI (spec/49_flags_break.md). -/

namespace Sys2Proof.Proofs

open Machine Safety

/-- Settles O35: BRK is the shared entry with PC past the padding byte. -/
theorem brkEntersThroughItsVector : Obligations.BrkEntersThroughItsVector := by
  intro s hw ret
  exact ⟨rfl, s.softwareBreak, exec_brk s, s.softwareBreak_eq,
    State.interruptEntry_pushesThree_ofNat (s := s.setPc ret) hw _ true, Instr.cycles_of_no_penalty rfl s⟩

/-- Settles O37: RTI undoes the entry that BRK makes from the address past its padding byte. -/
theorem rtiAfterBrkResumesPastThePadding : Obligations.RtiAfterBrkResumesPastThePadding := by
  intro s hw
  refine ⟨s.softwareBreak, exec_brk s, ?_⟩
  rw [exec_rti, State.softwareBreak, State.returnFromInterrupt_interruptEntry (s := s.setPc (s.pc + 1#16)) hw]
  rfl

/-- Settles O34, instruction by instruction. -/
theorem flagInstructionsAndNop : Obligations.FlagInstructionsAndNop := by
  intro s
  exact ⟨rfl, rfl, rfl, rfl, rfl, rfl, rfl, rfl, rfl⟩

/-- Settles O36: the first pulled byte gives the flags, and the next two make PC, low byte first. -/
theorem rtiRestoresStatusAndPc : Obligations.RtiRestoresStatusAndPc := by
  intro s
  refine ⟨rfl, _, exec_rti s, ?state, ?pc⟩
  case state => rw [State.returnFromInterrupt_eq]
  case pc => rw [State.returnFromInterrupt_eq, wordOf_toNat]

end Sys2Proof.Proofs
end

section
/-! SUPPORT. The entry steps and the decode-fault step as one change of the state each, and when they run (spec/60_exceptions.md
R402 to R409). -/

namespace Sys2Proof.Machine

open Safety

/-! ## The entry steps (R130, R405) -/

namespace State

theorem nmiStep_eq (s : State) :
    s.nmiStep =
      { s with sp := s.sp - 3#8, mem := s.nmiStep.mem, p := { s.p with i := true }, pc := s.read16 Config.nmiVector,
               pollI := true, nmiPending := s.nmiEarly, nmiEarly := false, cycles := 7 } := by
  rw [nmiStep, interruptEntry_eq _ _ outsideStackPage_nmiVector]
  rfl

theorem irqStep_eq (s : State) :
    s.irqStep =
      { s with sp := s.sp - 3#8, mem := s.irqStep.mem, p := { s.p with i := true },
               pc := s.read16 s.irqOrHijackedVector, pollI := true, nmiEarly := false, cycles := 7 } := by
  rw [irqStep, interruptEntry_eq _ _ s.outsideStackPage_irqOrHijackedVector, endStep_eq, Bool.or_false]
  rfl

end State

/-- A pending NMI is taken, whatever masks an IRQ (R404). -/
theorem step_of_nmiPending {s : State} (hhost : s.host = []) (hrun : s.run = .running) (hn : s.nmiPending = true) :
    step s = .next s.nmiStep := by
  rw [step_of_host_nil hhost]
  simp only [State.coreStep, hrun, State.arbitrate, hn, if_true]

/-- With no NMI pending, an asserted IRQ that `pollI` does not mask is taken (R404). -/
theorem step_of_irq {s : State} (hhost : s.host = []) (hrun : s.run = .running) (hn : s.nmiPending = false)
    (hirq : s.irq = true) (hpoll : s.pollI = false) : step s = .next s.irqStep := by
  rw [step_of_host_nil hhost]
  simp [State.coreStep, hrun, State.arbitrate, hn, hirq, hpoll]

/-- What an IRQ entry that no NMI request hijacks leaves: the vector's word in PC, I set, and PC and the status byte with B = 0 on
the stack (R405). -/
structure IrqEntered (s t : State) : Prop where
  pc : t.pc = s.read16 0xFFFE#16
  p : t.p = { s.p with i := true }
  sp : t.sp = s.sp - 3#8
  a : t.a = s.a
  x : t.x = s.x
  y : t.y = s.y
  pushes : PushesThree s t (BitVec.ofNat 8 (s.pc.toNat / 256)) (BitVec.ofNat 8 s.pc.toNat) (packP s.p false)

theorem irqEntered_irqStep {s : State} (hw : s.mem.wf = true) (he : s.nmiEarly = false) : IrqEntered s s.irqStep where
  pc := by
    rw [State.irqStep_eq, State.irqOrHijackedVector_eq, he]
    rfl
  p := by rw [State.irqStep_eq]
  sp := by rw [State.irqStep_eq]
  a := by rw [State.irqStep_eq]
  x := by rw [State.irqStep_eq]
  y := by rw [State.irqStep_eq]
  pushes := State.interruptEntry_pushesThree_ofNat hw s.irqOrHijackedVector false

/-! ## The decode-fault step (R409) -/

theorem step_of_undefined {s : State} (hx : Executes s) (hop : s.read s.pc ∈ undefinedOpcodes) :
    step s = .next (s.faultStep (s.read s.pc)) := by
  have hcell := Option.isNone_iff_eq_none.mp ((opcodeCell_isNone_iff _).mpr hop)
  have hd : decode s.fetchBytes = .undefinedOpcode (s.read s.pc) := decode_cons_of_empty hcell _
  rw [step_of_executes hx]
  simp only [State.instrStep, hd]

/-- After a decode fault with no NMI request, halt_resume() leaves the state before it but for the latched fault and the returned
count. -/
theorem haltResume_faultStep {s : State} (hrun : s.run = .running) (hn : s.nmiPending = false) (he : s.nmiEarly = false)
    (op : Byte) : (s.faultStep op).haltResume = { s with fault := some (.decodeFault s.pc op), cycles := 0 } := by
  rw [haltResume_eq, faultStep_eq]
  simp [hrun, hn, he]

/-! ## Three steps, and a scheduled one (R418, log 7) -/

theorem core_run_three {s t u v : State} (h1 : step s = .next t) (h2 : step t = .next u) (h3 : step u = .next v) :
    core.run 3 s = .next v := by
  rw [core_run_succ h1, core_run_succ h2, core_run_succ h3]
  rfl

/-- A scheduled step does what the step with its input does when nothing is scheduled, and leaves the rest of the schedule. -/
theorem step_of_scheduled {s t : State} {e : Bool} {rest : List HostCall} (hh : s.host = .step e :: rest)
    (ht : step { s with host := [], nmiEarly := e } = .next t) : step s = .next { t with host := rest } := by
  rw [step_of_host_nil rfl] at ht
  rw [step_of_host_cons hh]
  exact coreStep_setHost ht rest

/-- A scheduled change of the IRQ line (R402). -/
theorem step_driveIrq {s : State} {level : Bool} {rest : List HostCall} (hh : s.host = .driveIrq level :: rest) :
    step s = .next { s with host := rest, irq := level } :=
  step_of_host_cons hh

/-! ## An instruction step and its retirement (R130, R408) -/

/-- Where no interrupt is accepted, a step runs the instruction at PC and retires it. -/
theorem step_of_fetched {s u : State} {i : Instr} (hx : Executes s) (hd : fetched s = .instr i)
    (hu : exec i (s.pastInstr i) = .next u) : step s = .next (u.retire i (s.pastInstr i)) :=
  (step_of_executes hx).trans (instrStep_of_decode hd hu)

namespace State
variable (t s : State) (i : Instr)
@[simp] theorem retire_pollI :
    (t.retire i s).pollI = if i.op = .cli ∨ i.op = .sei ∨ i.op = .plp then s.p.i else t.p.i := by rw [retire_eq]
@[simp] theorem retire_nmiPending :
    (t.retire i s).nmiPending = (t.nmiPending || (s.nmiEarly && i.op != .brk)) := by rw [retire_eq]
@[simp] theorem retire_nmiEarly : (t.retire i s).nmiEarly = false := by rw [retire_eq]
@[simp] theorem pastInstr_nmiEarly : (s.pastInstr i).nmiEarly = s.nmiEarly := rfl
@[simp] theorem retire_irq : (t.retire i s).irq = t.irq := by rw [retire_eq]
@[simp] theorem retire_host : (t.retire i s).host = t.host := by rw [retire_eq]
end State

/-- The instructions that move I to a value of their own, each with its opcode byte (R382, R383). -/
inductive MovesI : Instr → Byte → Bool → Prop where
  | cli : MovesI .cli 0x58#8 false
  | sei : MovesI .sei 0x78#8 true

/-- CLI and SEI move I, and leave the old I to the next boundary's IRQ test (R408). -/
theorem MovesI.step_eq {i : Instr} {opcode : Byte} {b : Bool} (h : MovesI i opcode b) {s : State} (hx : Executes s)
    (hop : s.read s.pc = opcode) :
    step s = .next { s with pc := s.pc + 1#16, p := { s.p with i := b }, pollI := s.p.i, nmiPending := s.nmiEarly,
                            nmiEarly := false, cycles := 2 } := by
  have ⟨_, _, hn, _⟩ := hx
  have hd : fetched s = .instr i := by
    rw [fetched, hop]
    cases h <;> rfl
  have hu : exec i (s.pastInstr i) = .next ((s.pastInstr i).setP { s.p with i := b }) := by
    cases h <;> rfl
  have hlatency : i.op = .cli ∨ i.op = .sei ∨ i.op = .plp := by
    cases h <;> decide
  have hlatch : (i.op != .brk) = true := by
    cases h <;> decide
  have hpc : s.pastInstr i = s.setPc (s.pc + 1#16) := by
    cases h <;> rfl
  have hcycles : i.cycles (s.pastInstr i) = 2 := by
    cases h <;> exact Instr.cycles_of_no_penalty rfl _
  rw [step_of_fetched hx hd hu, retire_eq, if_pos hlatency, hlatch, hcycles, hpc, Bool.and_true]
  simp [State.setPc, State.setP, hn]

/-! ## An IRQ entry in a run -/

theorem IrqEntered.of_retire {u f t : State} {i : Instr} (h : IrqEntered (u.retire i f) t) : IrqEntered u t := by
  rw [retire_eq] at h
  exact ⟨h.pc, h.p, h.sp, h.a, h.x, h.y, h.pushes⟩

/-- A scheduled step takes an IRQ too. -/
theorem scheduled_step_irqEntered {s : State} {rest : List HostCall} (hw : s.mem.wf = true)
    (hh : s.host = .step false :: rest) (hrun : s.run = .running) (hn : s.nmiPending = false) (hirq : s.irq = true)
    (hpoll : s.pollI = false) : ∃ t, step s = .next t ∧ IrqEntered s t := by
  have h := irqEntered_irqStep (s := { s with host := [], nmiEarly := false }) hw rfl
  exact ⟨_, step_of_scheduled hh (step_of_irq rfl hrun hn hirq hpoll), h.pc, h.p, h.sp, h.a, h.x, h.y, h.pushes⟩

end Sys2Proof.Machine
end

section
/-! The theorems that settle the statements about faults and interrupts (spec/60_exceptions.md). -/

namespace Sys2Proof.Proofs

open Machine Safety

/-- Settles O46: the step is the decode-fault step. -/
theorem undefinedOpcodeRaisesTheDecodeFault : Obligations.UndefinedOpcodeRaisesTheDecodeFault := by
  intro s hx hop
  have ⟨_, _, hn, _⟩ := hx
  rw [step_of_undefined hx hop, faultStep_eq, hn, Bool.false_or]

/-- Settles O47: the resumed core stands at the same byte with the same memory, so it raises the same fault. -/
theorem resumeAfterAFaultFaultsAgain : Obligations.ResumeAfterAFaultFaultsAgain := by
  intro s hx he hop
  have ⟨hhost, hrun, hn, hmask⟩ := hx
  refine ⟨_, step_of_undefined hx hop, ?_⟩
  rw [haltResume_faultStep hrun hn he,
    step_of_undefined (s := { s with fault := some (.decodeFault s.pc (s.read s.pc)), cycles := 0 })
      ⟨hhost, hrun, hn, hmask⟩ hop, faultStep_eq, faultStep_eq]
  rfl

/-- Settles O51: the step is the NMI entry step. -/
theorem nmiEntryStep : Obligations.NmiEntryStep := by
  intro s hw hhost hrun hn
  exact ⟨s.nmiStep, step_of_nmiPending hhost hrun hn, s.nmiStep_eq,
    State.interruptEntry_pushesThree_ofNat (s := s.setNmiPending false) hw Config.nmiVector false⟩

/-- Settles O52: the step is the IRQ entry step. -/
theorem irqEntryStep : Obligations.IrqEntryStep := by
  intro s hw hhost hrun hn hirq hpoll
  have heq := s.irqStep_eq
  rw [hn] at heq
  exact ⟨s.irqStep, step_of_irq hhost hrun hn hirq hpoll, heq,
    State.interruptEntry_pushesThree_ofNat hw s.irqOrHijackedVector false⟩

/-- Settles O53: CLI leaves `pollI` at the old I = 1, so the next instruction runs; that one leaves `pollI` at 0, by its own I or
(SEI, PLP) by the I that CLI cleared. -/
theorem irqIsTakenOneInstructionAfterCli : Obligations.IrqIsTakenOneInstructionAfterCli := by
  intro s u i hw hx hirq he hi hop afterCli hd hu hleaves
  have ⟨hhost, hrun, hn, hmask⟩ := hx
  have hpoll : s.pollI = true := hmask.resolve_left (by simp [hirq])
  have hcli : step s = .next afterCli := by
    rw [MovesI.cli.step_eq hx hop]
    simp only [afterCli, hi, hn, he, hpoll]
  have hnext : step afterCli = .next (u.retire i (afterCli.pastInstr i)) :=
    step_of_fetched ⟨hhost, hrun, hn, .inr hpoll⟩ hd hu
  have hm := Meaning.of_exec hu
  obtain ⟨hurun, -, hun, -, -, huirq, -, huhost, -⟩ := hm.sameHostState
  have hunmasked : (u.retire i (afterCli.pastInstr i)).pollI = false := by
    rw [State.retire_pollI]
    split
    · rfl
    · rename_i hother
      exact hleaves.resolve_right fun h => hother (.inr h)
  have hirqStep := step_of_irq (s := u.retire i (afterCli.pastInstr i)) (by simpa using huhost.trans hhost)
    (by simpa using hurun.trans hrun) (by simp [hun, hn, he, afterCli]) (by simpa using huirq.trans hirq) hunmasked
  have hentered := (irqEntered_irqStep (by simpa using hm.mem_wf hw) (State.retire_nmiEarly u (afterCli.pastInstr i) i)).of_retire
  exact ⟨_, core_run_three hcli hnext hirqStep, hentered.pc, hentered.p, hentered.sp, hentered.a, hentered.x, hentered.y,
    hentered.pushes⟩

/-- Settles O54: SEI leaves `pollI` at the old I = 0, so the line that rises after it is not masked. -/
theorem irqIsStillTakenRightAfterSei : Obligations.IrqIsStillTakenRightAfterSei := by
  intro s hw hrun hn hirq hi hh hop
  have hsei := step_of_scheduled hh (MovesI.sei.step_eq (s := { s with host := [], nmiEarly := false })
    ⟨rfl, hrun, hn, .inl hirq⟩ hop)
  obtain ⟨t, hirqStep, hentered⟩ := scheduled_step_irqEntered (rest := [])
    (s := { s with pc := s.pc + 1#16, p := { s.p with i := true }, pollI := s.p.i, nmiPending := false, irq := true,
                   nmiEarly := false, cycles := 2, host := [.step false] }) hw rfl hrun rfl rfl hi
  exact ⟨t, core_run_three hsei (step_driveIrq rfl) hirqStep, hentered.pc, hentered.p, hentered.sp, hentered.pushes⟩

end Sys2Proof.Proofs
end

section
/-! SUPPORT. The base cycles and the penalties of R103's listing by class of mnemonic and by mode, read off the decoder's cells
(spec/70_reset_and_hazards.md R510, R511). -/

namespace Sys2Proof

open Machine

/-! ## The classes of mnemonics -/

/-- The mnemonics that read an operand and write no memory (R204 to R233, R270 to R272, R300 to R303). -/
def Op.readers : List Op := [.lda, .ldx, .ldy, .adc, .sbc, .and, .ora, .eor, .bit, .cmp, .cpx, .cpy]

/-- The mnemonics that store a register (R273 to R275). -/
def Op.stores : List Op := [.sta, .stx, .sty]

/-- The read-modify-write mnemonics (R206, R207, R250). -/
def Op.modifies : List Op := [.asl, .lsr, .rol, .ror, .inc, .dec]

/-- The mnemonics that act on registers and flags alone (R208 to R211, R276 to R281, R380 to R387). -/
def Op.implied : List Op :=
  [.inx, .iny, .dex, .dey, .tax, .tay, .txa, .tya, .tsx, .txs, .clc, .sec, .cli, .sei, .cld, .sed, .clv, .nop]

/-! ## Their rows of the table (R103) -/

theorem imm_timing (i : Instr) : i.mode = .imm → i.timing = (2, .none) :=
  Instr.of_cells (P := fun _ mode timing => mode = .imm → timing = (2, .none)) (by decide) i

/-- Reading and storing cost the same in the modes that cannot cross a page. -/
theorem access_timing_zp (i : Instr) : i.op ∈ Op.readers ∨ i.op ∈ Op.stores → i.mode = .zp → i.timing = (3, .none) :=
  Instr.of_cells (P := fun op mode timing => op ∈ Op.readers ∨ op ∈ Op.stores → mode = .zp → timing = (3, .none))
    (by decide) i

theorem access_timing_abs (i : Instr) : i.op ∈ Op.readers ∨ i.op ∈ Op.stores →
    i.mode = .zpX ∨ i.mode = .zpY ∨ i.mode = .abs → i.timing = (4, .none) :=
  Instr.of_cells (P := fun op mode timing => op ∈ Op.readers ∨ op ∈ Op.stores →
    mode = .zpX ∨ mode = .zpY ∨ mode = .abs → timing = (4, .none)) (by decide) i

theorem access_timing_indX (i : Instr) : i.op ∈ Op.readers ∨ i.op ∈ Op.stores → i.mode = .indX → i.timing = (6, .none) :=
  Instr.of_cells (P := fun op mode timing => op ∈ Op.readers ∨ op ∈ Op.stores → mode = .indX → timing = (6, .none))
    (by decide) i

/-- The readers have the page penalty in the modes that can cross a page. -/
theorem reader_timing (i : Instr) : i.op ∈ Op.readers →
    (i.mode = .absX ∨ i.mode = .absY → i.timing = (4, .page)) ∧ (i.mode = .indY → i.timing = (5, .page)) :=
  Instr.of_cells (P := fun op mode timing => op ∈ Op.readers →
    (mode = .absX ∨ mode = .absY → timing = (4, .page)) ∧ (mode = .indY → timing = (5, .page))) (by decide) i

theorem modify_timing (i : Instr) : i.op ∈ Op.modifies →
    (i.mode = .zp → i.timing = (5, .none)) ∧ (i.mode = .zpX ∨ i.mode = .abs → i.timing = (6, .none)) :=
  Instr.of_cells (P := fun op mode timing => op ∈ Op.modifies →
    (mode = .zp → timing = (5, .none)) ∧ (mode = .zpX ∨ mode = .abs → timing = (6, .none))) (by decide) i

/-- The indexed form of a read-modify-write has no penalty. -/
theorem modify_timing_absX (i : Instr) : i.op ∈ Op.modifies → i.mode = .absX → i.timing = (7, .none) :=
  Instr.of_cells (P := fun op mode timing => op ∈ Op.modifies → mode = .absX → timing = (7, .none)) (by decide) i

theorem implied_timing (i : Instr) : i.mode = .acc ∨ i.op ∈ Op.implied → i.timing = (2, .none) :=
  Instr.of_cells (P := fun op mode timing => mode = .acc ∨ op ∈ Op.implied → timing = (2, .none)) (by decide) i

/-- The mode of the branches is theirs alone, and has the branch penalty. -/
theorem rel_timing (i : Instr) : i.mode = .rel → i.timing = (2, .branch) :=
  Instr.of_cells (P := fun _ mode timing => mode = .rel → timing = (2, .branch)) (by decide) i

/-- Pushes are one cycle shorter than pulls. -/
theorem stack_timing (i : Instr) :
    (i.op = .pha ∨ i.op = .php → i.timing = (3, .none)) ∧ (i.op = .pla ∨ i.op = .plp → i.timing = (4, .none)) :=
  Instr.of_cells (P := fun op _ timing =>
    (op = .pha ∨ op = .php → timing = (3, .none)) ∧ (op = .pla ∨ op = .plp → timing = (4, .none))) (by decide) i

/-- The mnemonics that load PC without a condition. -/
theorem jump_timing (i : Instr) :
    (i.op = .jmp → i.timing = (if i.mode = .ind then 5 else 3, .none)) ∧
    (i.op = .jsr ∨ i.op = .rts ∨ i.op = .rti → i.timing = (6, .none)) ∧ (i.op = .brk → i.timing = (7, .none)) :=
  Instr.of_cells (P := fun op mode timing =>
    (op = .jmp → timing = (if mode = .ind then 5 else 3, .none)) ∧
    (op = .jsr ∨ op = .rts ∨ op = .rti → timing = (6, .none)) ∧ (op = .brk → timing = (7, .none))) (by decide) i

/-! ## The page penalty -/

/-- With the page penalty, one more cycle when the instruction's address crosses a page, in any form. -/
theorem Instr.cycles_of_page_crossed {i : Instr} {n : Nat} (ht : i.timing = (n, .page)) (s : State) :
    i.cycles s = n + (i.crossed s).toNat := by
  cases hcross : i.crossed s <;> simp [Instr.cycles, ht, hcross, cycleCount]

end Sys2Proof
end

section
/-! The theorems that settle the statements about timing and reset (spec/70_reset_and_hazards.md). -/

namespace Sys2Proof.Proofs

open Machine

/-- Settles O58: each class of mnemonics has its rows of the table, and its penalty counts the crossing. -/
theorem cycleCountsByClassAndMode : Obligations.CycleCountsByClassAndMode := by
  intro i s crossing readers stores modifies implied
  have hcrossing : crossing = (i.crossed s).toNat := by
    simp only [crossing, Instr.crossed]
    rcases i.operand with _ | _ | _ | _ <;> rfl
  have hcrossed : decide (crossing = 1) = i.crossed s := by
    rw [hcrossing]
    cases i.crossed s <;> rfl
  have base {n : Nat} (ht : i.timing = (n, .none)) : i.cycles s = n := Instr.cycles_of_no_penalty ht s
  have page {n : Nat} (ht : i.timing = (n, .page)) : i.cycles s = n + crossing :=
    hcrossing ▸ Instr.cycles_of_page_crossed ht s
  have store (hop : i.op ∈ stores) := store_timing i (by simpa [stores] using hop)
  obtain ⟨hpush, hpull⟩ := stack_timing i
  obtain ⟨hjmp, hsix, hbrk⟩ := jump_timing i
  refine ⟨fun h => base (imm_timing i h), fun hop h => base (access_timing_zp i hop h),
    fun hop h => base (access_timing_abs i hop h), fun hop h => base (access_timing_indX i hop h),
    fun hop h => page ((reader_timing i hop).left h), fun hop h => page ((reader_timing i hop).right h),
    fun hop h => base ((store hop).left h), fun hop h => base ((store hop).right h), fun h => base (implied_timing i h),
    fun hop => ?modifies, fun h => ?branches, fun h => base (hpush h), fun h => base (hpull h), fun h => base (hjmp h),
    fun h => base (hsix h), fun h => base (hbrk h)⟩
  case modifies =>
    obtain ⟨hzp, habs⟩ := modify_timing i hop
    exact ⟨fun h => base (hzp h), fun h => base (habs h), fun h => base (modify_timing_absX i hop h)⟩
  case branches => rw [Instr.cycles_of_branch_penalty (rel_timing i h), hcrossed]

/-- Settles O55: the scheduled call is reset() with its draws. -/
theorem hostResetSequence : Obligations.HostResetSequence := by
  intro s draw rest hh
  rw [step_of_host_cons hh]
  rfl

end Sys2Proof.Proofs
end
